-- ==== Sys2Proof/Word.lean ====
section
/-! DEFINITION. The byte and the multi-byte words of the three interfaces (R190): every field of a record on the
peer bus, the feeder link or the command port is a bit vector of one of these widths. -/

namespace Sys2Proof

/-- One byte of a frame or record (R190). -/
abbrev Byte := BitVec 8

/-- A two-byte field, most significant byte first on the wire (R190). -/
abbrev Half := BitVec 16

/-- A three-byte field, the width of a carrier id (11.2, 11.3). -/
abbrev Triple := BitVec 24

/-- A vehicle number of a command the device itself raises, 1..1023 (R63). -/
abbrev VehicleNo := BitVec 10

end Sys2Proof
end

