-- ==== Sys2Proof/Config.lean ====
section
/-! DEFINITION. What is fixed for every DC412: the sizes of its tables and the constants its rules name. The
parameters that the host writes stand in the configuration store (Machine/State.lean, `Cfg`), not here. -/

namespace Sys2Proof.Config

/-- Job records (R18). -/
def jobSlots : Nat := 64
/-- Load ports (R50). -/
def portCount : Nat := 48
/-- Roster records (R63). -/
def rosterSlots : Nat := 24
/-- Entries of the pass list (R84). -/
def passSlots : Nat := 8
/-- How long a vehicle stays on the pass list, in milliseconds (R84). -/
def passHold : Nat := 600000
/-- Park slots (R86). -/
def parkSlots : Nat := 8
/-- Call places, and slots of the own call table (R117). -/
def callPlaces : Nat := 4
/-- Entries of the incoming call queue (R129). -/
def incomingSlots : Nat := 8
/-- Frames of the transmit queue (R164). -/
def txSlots : Nat := 8
/-- Notices of the notice queue (R180). -/
def noticeSlots : Nat := 32
/-- The station number space (R162). -/
def stationCount : Nat := 32
/-- The target that names every station (R169). -/
def allStations : Byte := 63
/-- The limit at which travel figures saturate (R7). -/
def estimateMax : Nat := 65535
/-- The cap of a GOTO or LEAVE time limit, in milliseconds (R16). -/
def moveLimitMax : Nat := 600000
/-- The time limit of HALT and ADOPT, in milliseconds (R17). -/
def shortLimit : Nat := 2000
/-- The first provisional tag (R21). -/
def provisionalBase : Nat := 32768
/-- The value by which a 32-bit configuration field says "absent" (R193). -/
def absentValue : Nat := 0xFFFFFFFF

end Sys2Proof.Config
end

