-- ==== Sys2Proof/Syntax.lean ====
section
/-! DEFINITION. The commands of the block: one constructor of `Instr` per row of spec/opcode_table.json, with the
row's operands as the raw fields of the records of chapter 11. Meaning stands in Machine/ alone. -/

namespace Sys2Proof

/-- A call id: the caller station, then the sequence (R117, R190). -/
structure CallId where
  station : Byte
  seq : Byte
  deriving DecidableEq, Repr

/-- A two-line bus: line A or line B (R170). -/
inductive Line where
  | a
  | b
  deriving DecidableEq, Repr

/-- The payload of a peer-bus frame, one constructor per kind of R162; HANDOFF has one for each of its two forms
(11.2). A class is three bits, because the form check of R191 compares the payload's class byte with the key's. -/
inductive Payload where
  | take (call : CallId) (station : Byte) (vehicle : Half)
  | close (call : CallId)
  | refuse (call : CallId) (vehicle : Half)
  | grant (askSeq : Byte) (vehicle : Half)
  | defer (askSeq reason : Byte) (retryAfter : Half)
  | deny (askSeq reason : Byte)
  | handoffLent (vehicle : Half) (call : CallId)
  | handoffLaden (vehicle : Half) (askSeq : Byte) (tag : Half) (carrier : Triple) (cls : BitVec 3)
      (age mode port : Byte) (movesDone : Half)
  | offer (call : CallId) (vehicle : Half) (eta : Half)
  | ask (askSeq : Byte) (vehicle : Half) (carrier : Triple) (cls : BitVec 3) (age port : Byte)
  | call (call : CallId) (cls : BitVec 3) (urgency : Half)
  | beacon (spare freeRecords freeJobSlots waitingJobs quiet : Byte)
  deriving DecidableEq, Repr

/-- The sender (the low five bits of the contention key) and the target of a frame heard (R162, 11.2). -/
structure FrameHead where
  sender : BitVec 5
  target : Byte
  deriving DecidableEq, Repr

/-- The two forms of a HANDOFF (11.2): kind LENT names a call, kind LADEN an ask seq and the job. -/
inductive HandoffBody where
  | lent (call : CallId)
  | laden (askSeq : Byte) (tag : Half) (carrier : Triple) (cls : BitVec 3) (age mode port : Byte) (movesDone : Half)
  deriving DecidableEq, Repr

/-- The arguments of SUBMIT as R193 lays them out. -/
structure SubmitRecord where
  tag : Half
  carrier : Triple
  cls : Byte
  mode : Byte
  rearm : Byte
  count : Byte
  sourcePort : Byte
  destKind : Byte
  destStation : Byte
  destPort : Byte
  deriving DecidableEq, Repr

/-- The fields of a STATUS report after its vehicle number, as 11.3 lays them out. -/
structure StatusReport where
  position : Half
  motion : Byte
  laden : Byte
  carrier : Triple
  owner : Byte
  health : Byte
  deriving DecidableEq, Repr

/-- The commands of the block, in the order of spec/opcode_table.json. -/
inductive Instr where
  | submit (r : SubmitRecord)
  | cancel (tag : Half)
  | portSet (port ready occupied : Byte)
  | vehicleRemove (vehicle : Half)
  | jobRead (tag : Half)
  | vehicleRead (vehicle : Half)
  | peerRead (station : Byte)
  | noticeRead
  | noticeResponseComplete
  | statusRead
  | cfgWrite (item index : Byte) (value : BitVec 32)
  | cfgCheck
  | start
  | isolate
  | resume
  | stop
  | unknownCommandCode (code : Byte)
  | selectReleasedEarly (bytes : List Byte)
  | resetAsserted
  | resetReleased
  | powerUp
  | status (vehicle : Half) (r : StatusReport)
  | done (vehicle : Half) (seq : BitVec 4) (result : Byte) (carrier : Triple)
  | entry (vehicle : Half)
  | exit (vehicle : Half)
  | feederRecordRejected (bytes : List Byte)
  | commandTimeLimitExpiry (vehicle : VehicleNo)
  | statusTimeoutExpiry (vehicle : VehicleNo)
  | lostHoldExpiry (vehicle : VehicleNo)
  | parkDelayExpiry (vehicle : VehicleNo)
  | passListExpiry (vehicle : VehicleNo)
  | portWaitExpiry (tag : Half)
  | agingTimerExpiry
  | dispatchDecision
  | quietTimerExpiry
  | offerWindowEnd (slot : BitVec 2)
  | callRetryExpiry (slot : BitVec 2)
  | reclaimWindowEnd
  | pledgeHoldExpiry (vehicle : VehicleNo)
  | callEntryExpiry (call : CallId)
  | askRetryExpiry (tag : Half)
  | admitWaitExpiry (tag : Half)
  | transitLimitExpiry (vehicle : VehicleNo)
  | inboundDeadlineExpiry (vehicle : VehicleNo)
  | beaconTimerExpiry
  | silenceTimerExpiry
  | transmissionAttempt
  | contentionLost
  | transmissionEnd (echo : Option (List Byte))
  | badFrame (line : Line) (bytes : List Byte)
  | standbyFrame
  | duplicateStationFrame
  | unacceptedFrame (h : FrameHead)
  | call (h : FrameHead) (call : CallId) (cls : BitVec 3) (urgency : Half)
  | offer (h : FrameHead) (call : CallId) (vehicle : Half) (eta : Half)
  | take (h : FrameHead) (call : CallId) (station : Byte) (vehicle : Half)
  | close (h : FrameHead) (call : CallId)
  | refuse (h : FrameHead) (call : CallId) (vehicle : Half)
  | ask (h : FrameHead) (askSeq : Byte) (vehicle : Half) (carrier : Triple) (cls : BitVec 3) (age port : Byte)
  | grant (h : FrameHead) (askSeq : Byte) (vehicle : Half)
  | defer (h : FrameHead) (askSeq reason : Byte) (retryAfter : Half)
  | deny (h : FrameHead) (askSeq reason : Byte)
  | handoff (h : FrameHead) (vehicle : Half) (body : HandoffBody)
  | beacon (h : FrameHead) (spare freeRecords freeJobSlots waitingJobs quiet : Byte)
  deriving DecidableEq, Repr

end Sys2Proof
end

