-- ==== Sys2Proof/Decode.lean ====
section
/-! DEFINITION. The command that a word of the table's bits spells. spec/opcode_table.json gives no row any bits, so no
word spells a command; the records of chapter 11 are read in Machine/Layout.lean. -/

namespace Sys2Proof

def decodeTableWord (_nbits _w : Nat) : Option Instr := none

end Sys2Proof
end

