-- ==== Sys2Proof/Machine/State.lean ====
section
/-! DEFINITION. The state of the block: every table, queue, list, counter, flag and timer the spec names, block by
block (00_scope.md, BLOCK DIAGRAM), with its value after reset; the reasons a step could stop; and the empty queue
of commands. Plain data throughout. Times are milliseconds since reset release (`State.now`). -/

namespace Sys2Proof.Machine

/-- No command of this block stops it: every rejected or unusable input has an effect, or none, that the spec states
(R179, R99, R167), so there is nothing for a step to stop with. -/
inductive Fault where
  deriving DecidableEq, Repr

/-- Why a command has no meaning. -/
inductive Refusal where
  /-- Raised by `exec` for a row of the table whose meaning is not written; safe (a claim about it cannot be proved).
  No arm of `exec` uses it. -/
  | notModelled (mnemonic : String)
  deriving DecidableEq, Repr

/-! ### Enumerations, each in the order in which the spec lists its values (R190 codes them by position) -/

/-- Operating levels (chapter 10). -/
inductive Level where
  | config | run | isolated
  deriving DecidableEq, Repr

/-- Isolation and level-change causes (R185, 11.5). -/
inductive Cause where
  | host | duplicateStation | txFail
  deriving DecidableEq, Repr

/-- Result codes of the command port (R179). -/
inductive ResultCode where
  | ok | clamped | badArg | duplicateTag | tableFull | unknownTag | tooLate | wrongLevel | notChecked | checkFailed
  deriving DecidableEq, Repr

/-- Job modes (R19). -/
inductive JobMode where
  | single | run | demand
  deriving DecidableEq, Repr

/-- Job states (R19). -/
inductive JobState where
  | waiting | calling | assigned | loading | carrying | holding | paused | inbound
  deriving DecidableEq, Repr

/-- Hold reasons (R24). -/
inductive HoldReason where
  | destFull | sourceNotReady | peerDown | noLender
  deriving DecidableEq, Repr

/-- The role of the vehicle a job names (R19). -/
inductive Role where
  | current | next
  deriving DecidableEq, Repr

/-- Where a job's carrier is picked up (R19). -/
inductive Source where
  | port (p : Nat)
  | arrival
  deriving DecidableEq, Repr

/-- Where a job's carrier is to be put down (R19). -/
inductive Dest where
  | here (p : Nat)
  | remote (station port : Nat)
  deriving DecidableEq, Repr

/-- Port modes (R51). -/
inductive PortMode where
  | off | supply | take | both
  deriving DecidableEq, Repr

/-- Vehicle states (R64). -/
inductive VehicleState where
  | expected | idle | parking | toPickup | loading | laden | unloading | holding | pledged | departing | faulted | lost
  deriving DecidableEq, Repr

/-- Fault reasons (R75, 11.5). -/
inductive FaultReason where
  | commandTimeout | hoistFault | blocked | refused | halted | emptyPort | portFull | health | ownerConflict | noDrop
  | noJobSlot | lostRecovery
  deriving DecidableEq, Repr

/-- Inbound phases (chapter 8). -/
inductive Phase where
  | awaitHandoff | inTransit | overdue
  deriving DecidableEq, Repr

/-- States of an ask list entry (R141). -/
inductive AskState where
  | held | asking | deferred | granted
  deriving DecidableEq, Repr

/-- States of an own call (R117). -/
inductive CallState where
  | openCall | retryWait
  deriving DecidableEq, Repr

/-- Peer states (R174). -/
inductive PeerState where
  | unknown | live | stale
  deriving DecidableEq, Repr

/-- Order among callers of equal urgency (R129). -/
inductive LendOrder where
  | fixed | rotating
  deriving DecidableEq, Repr

/-- What becomes of a frame whose version is not 1 (R167). -/
inductive VersionPolicy where
  | ignore | count
  deriving DecidableEq, Repr

/-- Reasons of JOB_FAILED (11.5). -/
inductive FailReason where
  | carrierStranded | noDrop
  deriving DecidableEq, Repr

/-- Reasons of JOB_REDIRECTED (R36, 11.5). -/
inductive RedirectReason where
  | denied | admitTimeout | mismatch | portFull
  deriving DecidableEq, Repr

/-- Reasons of VEHICLE_LOST (11.5). -/
inductive LostReason where
  | statusSilence | lostHoldExpired
  deriving DecidableEq, Repr

/-- Causes of LINE_SWITCH (11.5). -/
inductive SwitchCause where
  | errors | silence
  deriving DecidableEq, Repr

/-! ### The configuration store (R182) -/

/-- The parameters of the device, with the ranges of R2 and R182. Port modes, positions and capacities stand in the
port records (R50). -/
structure Cfg where
  station : Nat
  groupMask : BitVec 16
  callGroup : Nat
  loopLength : Nat
  exitPoint : Nat
  leg : Vector Nat 32
  hoistAllowance : Nat
  reachLimit : Nat
  quickAccept : Nat
  classBase : Vector Nat 8
  ageGain : Nat
  travelBase : Nat
  markAllow : Nat
  hoistLimit : Nat
  park : Vector (Option Nat) 8
  fallback : Option Nat
  strayClass : Nat
  agingInterval : Nat
  hotMax : Nat
  reserveFloor : Nat
  quietInterval : Nat
  parkDelay : Nat
  lendOrder : LendOrder
  offerWindow : Nat
  reclaimWindow : Nat
  pledgeHold : Nat
  callRetryInterval : Nat
  callRetries : Nat
  departLimit : Nat
  transitLimit : Nat
  askRetry : Nat
  admitWait : Nat
  portWait : Nat
  beaconPeriod : Nat
  freshLimit : Nat
  errThreshold : Nat
  silenceLimit : Nat
  txFailLimit : Nat
  versionPolicy : VersionPolicy
  statusTimeout : Nat
  lostHold : Nat
  deriving DecidableEq, Repr

/-- The defaults of R2 and R182. -/
def Cfg.reset : Cfg where
  station := 0
  groupMask := 0
  callGroup := 63
  loopLength := 2000
  exitPoint := 1900
  leg := Vector.replicate 32 0
  hoistAllowance := 40
  reachLimit := 3000
  quickAccept := 1500
  classBase := #v[0, 500, 1000, 1500, 2000, 2500, 3000, 3500]
  ageGain := 4
  travelBase := 5000
  markAllow := 2
  hoistLimit := 30
  park := Vector.replicate 8 none
  fallback := none
  strayClass := 4
  agingInterval := 10
  hotMax := 1
  reserveFloor := 2
  quietInterval := 300
  parkDelay := 30
  lendOrder := .fixed
  offerWindow := 150
  reclaimWindow := 40
  pledgeHold := 1000
  callRetryInterval := 2000
  callRetries := 3
  departLimit := 60
  transitLimit := 120
  askRetry := 1000
  admitWait := 90
  portWait := 20
  beaconPeriod := 500
  freshLimit := 4
  errThreshold := 31
  silenceLimit := 50
  txFailLimit := 8
  versionPolicy := .ignore
  statusTimeout := 1000
  lostHold := 10

/-! ### Command Port Controller -/

/-- The fields of a notice, by kind (11.5). `senderTag` is present where the job named carries one: the mark
TAG_REMAPPED (R21). -/
inductive NoticeBody where
  | jobDone (tag : Nat) (senderTag : Option Nat) (vehicle movesDone : Nat)
  | jobHanded (tag : Nat) (senderTag : Option Nat) (vehicle station : Nat)
  | jobCancelled (tag : Nat) (senderTag : Option Nat)
  | jobFailed (tag : Nat) (senderTag : Option Nat) (vehicle : Nat) (reason : FailReason) (carrier : Nat)
  | jobRedirected (tag : Nat) (senderTag : Option Nat) (vehicle : Nat) (reason : RedirectReason) (going : Dest)
  | noLender (tag : Nat) (senderTag : Option Nat) (call : CallId)
  | vehicleFault (vehicle : Nat) (reason : FaultReason)
  | vehicleLost (vehicle : Nat) (reason : LostReason)
  | ownerConflict (vehicle : Nat) (owner : Option Nat)
  | stray (vehicle : Nat) (owner : Option Nat) (tag : Option Nat) (carrier : Nat)
  | strayRefused (vehicle : Nat) (owner : Option Nat)
  | inboundOverdue (vehicle station : Nat) (tag senderTag : Option Nat)
  | inboundLost (vehicle station : Nat) (tag senderTag : Option Nat)
  | portMismatch (tag : Nat) (senderTag : Option Nat) (port : Nat)
  | lineSwitch (line : Line) (cause : SwitchCause)
  | busDegraded (a b : Nat)
  | duplicateStation (level : Level)
  | levelChange (left entered : Level) (cause : Cause)
  | txDrop (kind : Nat) (target : Byte)
  | stopped (discarded : Nat)
  deriving DecidableEq, Repr

/-- A notice: its kind and fields, and the 32-bit timebase count at its queuing (R180). -/
structure Notice where
  body : NoticeBody
  time : Nat
  deriving DecidableEq, Repr

/-- A response record (R179): the command code, the result, the level and the notice count after the command, and
the payload bytes of chapter 11. -/
structure Response where
  code : Byte
  result : ResultCode
  level : Level
  noticeCount : Nat
  payload : List Byte
  deriving DecidableEq, Repr

/-- What a NOTICE_READ response under way carries: whether it carries the head notice, and the overflow flag
(R181). -/
structure NoticeRead where
  carriesNotice : Bool
  carriesOverflow : Bool
  deriving DecidableEq, Repr

/-- The transaction whose command has been taken (R178): its response, and, while a NOTICE_READ response has not
been clocked out to its last byte, what that response carries. -/
structure Transaction where
  response : Response
  noticeRead : Option NoticeRead
  deriving DecidableEq, Repr

/-- The Command Port Controller's state. `raised` is the model's own: the notices of the step under way, which join
the queue at its end in the order of R180; it is empty between steps. -/
structure Cpc where
  level : Level
  isolationCause : Option Cause
  checked : Bool
  notices : List Notice
  overflow : Bool
  transaction : Option Transaction
  raised : List Notice
  deriving DecidableEq, Repr

/-! ### Job Table -/

/-- A job record (R19). -/
structure Job where
  tag : Nat
  senderTag : Option Nat
  carrier : Nat
  cls : Nat
  mode : JobMode
  rearm : Bool
  count : Nat
  reload : Nat
  movesDone : Nat
  source : Source
  dest : Dest
  originalDest : Option Dest
  age : Nat
  callBarred : Bool
  state : JobState
  holdReason : Option HoldReason
  vehicle : Option (Nat × Role)
  reservation : Option Nat
  callLink : Option Nat
  askSeq : Option Byte
  deriving DecidableEq, Repr

/-- The Job Table: its live records in admission order, so that the list of their tags is the admission order list
of R20, and the aging timer (R43). -/
structure JobTable where
  jobs : List Job
  agingDeadline : Option Nat
  deriving DecidableEq, Repr

/-! ### Port Table -/

/-- An entry of a port's wait list: a job whose vehicle stands at the port, and its deadline (R57). -/
structure PortWait where
  tag : Nat
  deadline : Nat
  deriving DecidableEq, Repr

/-- A port record (R50). -/
structure Port where
  mode : PortMode
  position : Nat
  capacity : Nat
  occupied : Nat
  reserved : Nat
  ready : Bool
  waitList : List PortWait
  deriving DecidableEq, Repr

/-- A port record after reset (R62). -/
def Port.reset : Port where
  mode := .off
  position := 0
  capacity := 1
  occupied := 0
  reserved := 0
  ready := false
  waitList := []

/-! ### Vehicle Roster -/

/-- What an EXPECTED record was promised under: a call (kind LENT) or a handover request (kind LADEN) (R64). -/
inductive InboundRef where
  | lent (call : CallId)
  | laden (askSeq : Byte)
  deriving DecidableEq, Repr

/-- The inbound part of an EXPECTED record (R64, R155). -/
structure Inbound where
  station : Nat
  ref : InboundRef
  phase : Phase
  deadline : Nat
  deriving DecidableEq, Repr

/-- The pledge part of a PLEDGED record (R64, R78). -/
structure Pledge where
  caller : Nat
  call : CallId
  holdDeadline : Nat
  deriving DecidableEq, Repr

/-- The lend part of a DEPARTING record, or of a lent vehicle in HOLDING (R64, R79). -/
structure Lend where
  caller : Nat
  call : CallId
  deriving DecidableEq, Repr

/-- The prior state of a LOST record, with its mark "command abandoned" (R68). -/
structure Prior where
  state : VehicleState
  abandoned : Bool
  deriving DecidableEq, Repr

/-- A roster record (R64), with its parking deadline (R86) and its LostHold deadline (R68). `laden` carries the
carrier id. The occupant of a park slot is the record whose `parkSlot` names it. -/
structure Vehicle where
  vehicle : Nat
  state : VehicleState
  position : Option Nat
  laden : Option Nat
  ownerConfirmed : Bool
  target : Option Nat
  currentJob : Option Nat
  nextJob : Option Nat
  parkSlot : Option Nat
  idleSince : Option Nat
  lastStatus : Option Nat
  faultReason : Option FaultReason
  inbound : Option Inbound
  pledge : Option Pledge
  lend : Option Lend
  prior : Option Prior
  parkDeadline : Option Nat
  lostHold : Option Nat
  deriving DecidableEq, Repr

/-- An entry of the pass list: a vehicle and the time at which PASS was sent (R84). -/
structure PassEntry where
  vehicle : Nat
  sentAt : Nat
  deriving DecidableEq, Repr

/-- The Vehicle Roster: its records, in the order of their creation, and the pass list. -/
structure Roster where
  records : List Vehicle
  passList : List PassEntry
  deriving DecidableEq, Repr

/-! ### Feeder Link Controller -/

/-- The commands of the feeder link (R89). -/
inductive FeederCmd where
  | goto (target : Nat)
  | load
  | unload
  | leave (station : Nat)
  | pass
  | adopt
  | halt
  deriving DecidableEq, Repr

/-- A command in flight (R92): its sequence number, the moment its time limit expires, the mark "halt sent", and the
model's own mark `latest`: of a GOTO, that no later GOTO has been requested for the vehicle (R70). -/
structure InFlight where
  cmd : FeederCmd
  seq : BitVec 4
  deadline : Nat
  haltSent : Bool
  latest : Bool
  deriving DecidableEq, Repr

/-- What a queued slot holds (R92): a command not yet transmitted, or a HALT transmitted ahead of the command in
flight, with its sequence number and the moment its limit expires (R94). -/
inductive Queued where
  | waiting (cmd : FeederCmd)
  | haltSent (seq : BitVec 4) (deadline : Nat)
  deriving DecidableEq, Repr

/-- A command context (R92). -/
structure Context where
  vehicle : Nat
  inFlight : Option InFlight
  queued : Option Queued
  deriving DecidableEq, Repr

/-- An entry of the link table that differs from its reset value: the vehicle's next sequence number and its format
error count (R89). -/
structure LinkEntry where
  vehicle : Nat
  nextSeq : BitVec 4
  formatErrors : Nat
  deriving DecidableEq, Repr

/-- A command as transmitted on the feeder link (R89). -/
structure SentCmd where
  vehicle : Nat
  sender : Nat
  seq : BitVec 4
  cmd : FeederCmd
  deriving DecidableEq, Repr

/-- The Feeder Link Controller. `link` lists the link table's entries that are not 0 and 0, by rising vehicle number.
`sent` is the model's own: what went out on FLTX since reset, oldest first. -/
structure Feeder where
  contexts : List Context
  link : List LinkEntry
  formatTotal : Nat
  unmatchedTotal : Nat
  lastCounted : Option Nat
  sent : List SentCmd
  deriving DecidableEq, Repr

/-! ### Call Unit -/

/-- The best offer of an own call (R117). -/
structure BestOffer where
  station : Nat
  vehicle : Nat
  total : Nat
  deriving DecidableEq, Repr

/-- An own call record in its slot (R117). -/
structure OwnCall where
  slot : Nat
  id : CallId
  tag : Nat
  cls : Nat
  urgency : Nat
  state : CallState
  windowDeadline : Option Nat
  retryDeadline : Option Nat
  best : Option BestOffer
  retries : Nat
  deriving DecidableEq, Repr

/-- An entry of the taken-call list (R117). -/
structure TakenCall where
  id : CallId
  tag : Nat
  cls : Nat
  urgency : Nat
  retries : Nat
  lender : Nat
  vehicle : Nat
  deriving DecidableEq, Repr

/-- An entry of the incoming call queue (R129). -/
structure Incoming where
  caller : Nat
  id : CallId
  urgency : Nat
  heardAt : Nat
  pledge : Option Nat
  deriving DecidableEq, Repr

/-- The Call Unit. A lending round is open exactly while `reclaimDeadline` is present (R132). -/
structure CallUnit where
  ownCalls : List OwnCall
  takenCalls : List TakenCall
  callSeq : Byte
  incoming : List Incoming
  reclaimDeadline : Option Nat
  rotation : List Nat
  quiet : Bool
  quietDeadline : Option Nat
  deriving DecidableEq, Repr

/-! ### Handover Unit -/

/-- An entry of the ask list (R141). -/
structure AskEntry where
  tag : Nat
  vehicle : Nat
  station : Nat
  port : Nat
  askSeq : Option Byte
  state : AskState
  retryDeadline : Option Nat
  admitDeadline : Option Nat
  deriving DecidableEq, Repr

/-- An entry of the exit queue (R142); `lent` tells the kind. -/
structure ExitEntry where
  vehicle : Nat
  lent : Bool
  mayLeave : Bool
  leaveSent : Bool
  deriving DecidableEq, Repr

/-- The Handover Unit. -/
structure Handover where
  askList : List AskEntry
  askSeq : Byte
  exitQueue : List ExitEntry
  deriving DecidableEq, Repr

/-! ### Peer Bus Controller -/

/-- A frame waiting in the transmit queue (R164). -/
structure TxFrame where
  target : Byte
  payload : Payload
  deriving DecidableEq, Repr

/-- The frame on the line (R165): the frame, the station number it bears, the line observed when it began (R166), and
two marks of the model's own for what happened while it stood on the line: `noReturn`, ISOLATED or STOP was entered, so
that it is discarded if it loses contention (R176); `newerBeacon`, a BEACON was queued, so that it is discarded then if
it is a BEACON itself (R165). -/
structure OnLine where
  frame : TxFrame
  sender : Nat
  line : Line
  noReturn : Bool
  newerBeacon : Bool
  deriving DecidableEq, Repr

/-- A peer table entry (R174). Its Leg stands in the configuration store. -/
structure Peer where
  state : PeerState
  freshness : Nat
  spare : Nat
  freeRecords : Nat
  freeJobSlots : Nat
  waitingJobs : Nat
  quiet : Bool
  deriving DecidableEq, Repr

/-- A peer table entry after reset and STOP (R176). -/
def Peer.reset : Peer where
  state := .unknown
  freshness := 0
  spare := 0
  freeRecords := 0
  freeJobSlots := 0
  waitingJobs := 0
  quiet := false

/-- The Peer Bus Controller. `ownCopy` is the model's own: where the line has switched during an own transmission, the
line then observed and the moment of the transmission's end, at which the frame's copy ends on that line too (R167, log
55). -/
structure PeerBus where
  txQueue : List TxFrame
  onLine : Option OnLine
  ownCopy : Option (Line × Nat)
  observed : Line
  errA : Nat
  errB : Nat
  degraded : Bool
  txFailures : Nat
  duplicate : Bool
  silenceDeadline : Nat
  standbyHeard : Bool
  beaconDeadline : Option Nat
  peers : Vector Peer 32
  deriving DecidableEq, Repr

/-! ### The whole block -/

/-- The state of the block. `held` says that RESETN is low (R188); `now` counts milliseconds since reset release;
`pending` is the queue of commands that wait. -/
structure State where
  held : Bool
  now : Nat
  cfg : Cfg
  cpc : Cpc
  jt : JobTable
  pt : Vector Port 48
  vr : Roster
  flc : Feeder
  decisionPending : Bool
  cu : CallUnit
  hu : Handover
  pbc : PeerBus
  pending : List Instr
  deriving DecidableEq, Repr

/-- The block right after reset release (R188): every item at its value after reset, as the chapter that owns it
states, and no command waiting. -/
def State.reset : State where
  held := false
  now := 0
  cfg := Cfg.reset
  cpc :=
    { level := .config, isolationCause := none, checked := false, notices := [], overflow := false,
      transaction := none, raised := [] }
  jt := { jobs := [], agingDeadline := none }
  pt := Vector.replicate 48 Port.reset
  vr := { records := [], passList := [] }
  flc := { contexts := [], link := [], formatTotal := 0, unmatchedTotal := 0, lastCounted := none, sent := [] }
  decisionPending := false
  cu :=
    { ownCalls := [], takenCalls := [], callSeq := 0, incoming := [], reclaimDeadline := none,
      rotation := List.range 32, quiet := false, quietDeadline := none }
  hu := { askList := [], askSeq := 0, exitQueue := [] }
  pbc :=
    { txQueue := [], onLine := none, ownCopy := none, observed := .a, errA := 0, errB := 0, degraded := false,
      txFailures := 0, duplicate := false, silenceDeadline := 50, standbyHeard := false, beaconDeadline := none,
      peers := Vector.replicate 32 Peer.reset }
  pending := []

end Sys2Proof.Machine
end

