-- ==== Sys2Proof/Machine/Operands.lean ====
section
/-! DEFINITION. The codes of the records (R190, chapter 11): how each enumerated value is sent, as its position in the
list that defines it, and how the codes of a command or report are read. A code outside its list reads as `none`. -/

namespace Sys2Proof.Machine

/-- CONFIG 0, RUN 1, ISOLATED 2 (R190). -/
def Level.code : Level → Nat
  | .config => 0 | .run => 1 | .isolated => 2

/-- The LEVEL_CHANGE causes (11.5). -/
def Cause.code : Cause → Nat
  | .host => 0 | .duplicateStation => 1 | .txFail => 2

/-- OK 0 to CHECK_FAILED 9 (R179, 11.4). -/
def ResultCode.code : ResultCode → Nat
  | .ok => 0 | .clamped => 1 | .badArg => 2 | .duplicateTag => 3 | .tableFull => 4 | .unknownTag => 5
  | .tooLate => 6 | .wrongLevel => 7 | .notChecked => 8 | .checkFailed => 9

def JobMode.code : JobMode → Nat
  | .single => 0 | .run => 1 | .demand => 2

/-- A mode above 2 is no mode (R193). -/
def JobMode.read (b : Byte) : Option JobMode :=
  if b = 0 then some .single else if b = 1 then some .run else if b = 2 then some .demand else none

def JobState.code : JobState → Nat
  | .waiting => 0 | .calling => 1 | .assigned => 2 | .loading => 3 | .carrying => 4 | .holding => 5 | .paused => 6
  | .inbound => 7

def HoldReason.code : HoldReason → Nat
  | .destFull => 0 | .sourceNotReady => 1 | .peerDown => 2 | .noLender => 3

def Role.code : Role → Nat
  | .current => 0 | .next => 1

def PortMode.code : PortMode → Nat
  | .off => 0 | .supply => 1 | .take => 2 | .both => 3

/-- A port mode by its position; above the list, the last (R182 clamps it). -/
def PortMode.atPosition : Nat → PortMode
  | 0 => .off | 1 => .supply | 2 => .take | _ => .both

def VehicleState.code : VehicleState → Nat
  | .expected => 0 | .idle => 1 | .parking => 2 | .toPickup => 3 | .loading => 4 | .laden => 5 | .unloading => 6
  | .holding => 7 | .pledged => 8 | .departing => 9 | .faulted => 10 | .lost => 11

/-- The VEHICLE_FAULT reasons (11.5). -/
def FaultReason.code : FaultReason → Nat
  | .commandTimeout => 0 | .hoistFault => 1 | .blocked => 2 | .refused => 3 | .halted => 4 | .emptyPort => 5
  | .portFull => 6 | .health => 7 | .ownerConflict => 8 | .noDrop => 9 | .noJobSlot => 10 | .lostRecovery => 11

def Phase.code : Phase → Nat
  | .awaitHandoff => 0 | .inTransit => 1 | .overdue => 2

def PeerState.code : PeerState → Nat
  | .unknown => 0 | .live => 1 | .stale => 2

def LendOrder.atPosition : Nat → LendOrder
  | 0 => .fixed | _ => .rotating

def VersionPolicy.atPosition : Nat → VersionPolicy
  | 0 => .ignore | _ => .count

def FailReason.code : FailReason → Nat
  | .carrierStranded => 0 | .noDrop => 1

def RedirectReason.code : RedirectReason → Nat
  | .denied => 0 | .admitTimeout => 1 | .mismatch => 2 | .portFull => 3

def LostReason.code : LostReason → Nat
  | .statusSilence => 0 | .lostHoldExpired => 1

def SwitchCause.code : SwitchCause → Nat
  | .errors => 0 | .silence => 1

/-- Yes 1, no 0 (log 30). -/
def yesNo (b : Bool) : Nat := if b then 1 else 0

/-! ### Codes of the feeder-link reports (11.3) -/

/-- Vehicle motion (R91, 11.3). -/
inductive Motion where
  | stopped | moving | hoisting
  deriving DecidableEq, Repr

def Motion.read (b : Byte) : Option Motion :=
  if b = 0 then some .stopped else if b = 1 then some .moving else if b = 2 then some .hoisting else none

/-- Owner 0..31, or 255 for none (11.3); the outer `none` is a code outside the list. -/
def ownerRead (b : Byte) : Option (Option Nat) :=
  if b.toNat < Config.stationCount then some (some b.toNat) else if b = 255 then some none else none

/-- Laden 0 or 1, and health GOOD 0 or BAD 1 (11.3): the answer is true for 1. -/
def flagRead (b : Byte) : Option Bool :=
  if b = 0 then some false else if b = 1 then some true else none

/-- A STATUS whose codes and position R5 accepts. -/
structure StatusView where
  position : Nat
  motion : Motion
  laden : Option Nat
  owner : Option Nat
  healthBad : Bool
  deriving DecidableEq, Repr

end Sys2Proof.Machine

namespace Sys2Proof

open Machine

/-- New line A 0, B 1 (11.5). -/
def Line.code : Line → Nat
  | .a => 0 | .b => 1

def Line.other : Line → Line
  | .a => .b | .b => .a

/-- The tests of R5 and R192 on a STATUS: its position against L, and its motion, laden, owner and health codes
against their lists. DESIGN CHOICE (log 50): laden with carrier id 0 is taken as it stands. -/
def StatusReport.view (loopLength : Nat) (r : StatusReport) : Option StatusView :=
  match Motion.read r.motion, flagRead r.laden, ownerRead r.owner, flagRead r.health with
  | some m, some l, some o, some h =>
    if r.position.toNat < loopLength then
      some { position := r.position.toNat, motion := m, laden := if l then some r.carrier.toNat else none,
             owner := o, healthBad := h }
    else none
  | _, _, _, _ => none

end Sys2Proof

namespace Sys2Proof.Machine

/-- DONE results (11.3). -/
inductive DoneResult where
  | ok | emptyPort | portFull | hoistFault | blocked | halted | refused
  deriving DecidableEq, Repr

def DoneResult.read (b : Byte) : Option DoneResult :=
  match b.toNat with
  | 0 => some .ok | 1 => some .emptyPort | 2 => some .portFull | 3 => some .hoistFault | 4 => some .blocked
  | 5 => some .halted | 6 => some .refused | _ => none

/-- The results each command kind can give (R91). -/
def FeederCmd.canGive : FeederCmd → DoneResult → Bool
  | .goto _, r | .leave _, r | .pass, r => r == .ok || r == .blocked || r == .halted || r == .refused
  | .load, r | .unload, r => r == .ok || r == .emptyPort || r == .portFull || r == .hoistFault || r == .refused
  | .adopt, r | .halt, r => r == .ok || r == .refused

/-- The kind test of R95: the result is one the kind can give, and a LOAD's OK carries a carrier id other than 0. -/
def FeederCmd.accepts (c : FeederCmd) (r : DoneResult) (carrier : Nat) : Bool :=
  c.canGive r && !(c == .load && r == .ok && carrier == 0)

/-- A vehicle number that passes the form test (R192). -/
def vehicleInRange (v : Nat) : Bool := 1 ≤ v && v ≤ 1023

end Sys2Proof.Machine
end

