-- ==== Sys2Proof/Machine/Layout.lean ====
section
/-! DEFINITION. The byte layouts of the peer-bus frames and the feeder-link records (R190 to R192): the CRC-16, how a
frame is sent, and the form checks by which bytes heard become a frame or a record. -/

namespace Sys2Proof.Machine

/-! ### Multi-byte fields, most significant byte first (R190) -/

/-- The `n` low bytes of a number, most significant first. -/
def bytesOf : Nat → Nat → List Byte
  | 0, _ => []
  | n + 1, v => BitVec.ofNat 8 (v >>> (8 * n)) :: bytesOf n v

def halfBytes (h : Half) : List Byte := [h.extractLsb' 8 8, h.extractLsb' 0 8]

def tripleBytes (t : Triple) : List Byte := [t.extractLsb' 16 8, t.extractLsb' 8 8, t.extractLsb' 0 8]

def halfOf (hi lo : Byte) : Half := hi ++ lo

def tripleOf (hi mid lo : Byte) : Triple := (hi ++ mid) ++ lo

/-! ### CRC-16 (R190) -/

/-- One bit: shift left, then XOR with 0x1021 when the bit shifted out differs from the data bit. -/
def crcBit (r : Half) (bit : Bool) : Half :=
  if r.msb != bit then (r <<< 1) ^^^ 0x1021 else r <<< 1

/-- One byte, from its most significant bit. -/
def crcByte (r : Half) (b : Byte) : Half :=
  [7, 6, 5, 4, 3, 2, 1, 0].foldl (fun r i => crcBit r (b.getLsbD i)) r

/-- The CRC over a list of bytes, starting at 0xFFFF. -/
def crc16 (bytes : List Byte) : Half := bytes.foldl crcByte 0xFFFF

/-- The record with its CRC appended, most significant byte first. -/
def withCrc (bytes : List Byte) : List Byte := bytes ++ halfBytes (crc16 bytes)

/-- The bytes before the CRC, where the record has at least the CRC's two bytes and they agree with it. -/
def checkCrc (bytes : List Byte) : Option (List Byte) :=
  let body := bytes.take (bytes.length - 2)
  if 2 ≤ bytes.length ∧ bytes = withCrc body then some body else none

/-! ### Peer-bus frames (11.2) -/

end Sys2Proof.Machine

namespace Sys2Proof

open Machine

/-- The kind code of a payload (11.2). -/
def Payload.kind : Payload → Byte
  | .take .. => 1 | .close .. => 2 | .refuse .. => 3 | .grant .. => 4 | .defer .. => 5 | .deny .. => 6
  | .handoffLent .. => 7 | .handoffLaden .. => 7 | .offer .. => 8 | .ask .. => 9 | .call .. => 10 | .beacon .. => 11

/-- The contention rank of a payload's kind (R162). -/
def Payload.rank : Payload → Byte
  | .offer .. | .ask .. => 1
  | .call .. => 2
  | .beacon .. => 3
  | _ => 0

/-- The class of the contention key: the class carried by a CALL, an ASK or a HANDOFF of kind LADEN, and 0 for every
other frame (R163). -/
def Payload.cls : Payload → BitVec 3
  | .call _ c _ => c
  | .ask _ _ _ c _ _ => c
  | .handoffLaden _ _ _ _ c _ _ _ _ => c
  | _ => 0

/-- The contention key, rank × 256 + class × 32 + station (R163). -/
def Payload.key (p : Payload) (sender : BitVec 5) : Half := p.rank ++ (p.cls ++ sender : Byte)

def CallId.bytes (c : CallId) : List Byte := [c.station, c.seq]

def clsByte (c : BitVec 3) : Byte := c.setWidth 8

/-- The payload fields in order (11.2). -/
def Payload.bytes : Payload → List Byte
  | .take c st v => c.bytes ++ st :: halfBytes v
  | .close c => c.bytes
  | .refuse c v => c.bytes ++ halfBytes v
  | .grant q v => q :: halfBytes v
  | .defer q r t => q :: r :: halfBytes t
  | .deny q r => [q, r]
  | .handoffLent v c => halfBytes v ++ 0 :: c.bytes
  | .handoffLaden v q t k c a m p d =>
    halfBytes v ++ 1 :: 0 :: q :: halfBytes t ++ tripleBytes k ++ clsByte c :: a :: m :: p :: halfBytes d
  | .offer c v e => c.bytes ++ halfBytes v ++ halfBytes e
  | .ask q v k c a p => q :: halfBytes v ++ tripleBytes k ++ [clsByte c, a, p]
  | .call c k u => c.bytes ++ clsByte k :: halfBytes u
  | .beacon s r j w q => [s, r, j, w, q]

end Sys2Proof

namespace Sys2Proof.Machine

/-- A frame of version 1: the sender's station number, the target and the payload (R162). -/
structure Frame where
  sender : BitVec 5
  target : Byte
  payload : Payload
  deriving DecidableEq, Repr

/-- The header of a frame: key, version, kind, target and payload length (11.2). -/
def Frame.header (f : Frame) : List Byte :=
  halfBytes (f.payload.key f.sender) ++ [1, f.payload.kind, f.target, BitVec.ofNat 8 f.payload.bytes.length]

/-- The frame as sent on both lines (11.2). -/
def Frame.encode (f : Frame) : List Byte := withCrc (f.header ++ f.payload.bytes)

/-- The payload that the bytes of a kind spell, and the class byte they carry; `none` where the kind code is outside
1..11 or the length, or a HANDOFF's kind byte, is not the table's (R191). DESIGN CHOICE (log 57): the first byte of a
LADEN HANDOFF's reference is ignored. -/
def readPayload (kind : Byte) (bytes : List Byte) : Option (Payload × Byte) :=
  match kind.toNat, bytes with
  | 1, [c1, c0, st, v1, v0] => some (.take ⟨c1, c0⟩ st (halfOf v1 v0), 0)
  | 2, [c1, c0] => some (.close ⟨c1, c0⟩, 0)
  | 3, [c1, c0, v1, v0] => some (.refuse ⟨c1, c0⟩ (halfOf v1 v0), 0)
  | 4, [q, v1, v0] => some (.grant q (halfOf v1 v0), 0)
  | 5, [q, r, t1, t0] => some (.defer q r (halfOf t1 t0), 0)
  | 6, [q, r] => some (.deny q r, 0)
  | 7, [v1, v0, 0, c1, c0] => some (.handoffLent (halfOf v1 v0) ⟨c1, c0⟩, 0)
  | 7, [v1, v0, 1, _, q, t1, t0, k2, k1, k0, c, a, m, p, d1, d0] =>
    some (.handoffLaden (halfOf v1 v0) q (halfOf t1 t0) (tripleOf k2 k1 k0) (c.setWidth 3) a m p (halfOf d1 d0), c)
  | 8, [c1, c0, v1, v0, e1, e0] => some (.offer ⟨c1, c0⟩ (halfOf v1 v0) (halfOf e1 e0), 0)
  | 9, [q, v1, v0, k2, k1, k0, c, a, p] =>
    some (.ask q (halfOf v1 v0) (tripleOf k2 k1 k0) (c.setWidth 3) a p, c)
  | 10, [c1, c0, c, u1, u0] => some (.call ⟨c1, c0⟩ (c.setWidth 3) (halfOf u1 u0), c)
  | 11, [s, r, j, w, q] => some (.beacon s r j w q, 0)
  | _, _ => none

/-- What the form and version checks of R167 make of bytes heard. -/
inductive Heard where
  /-- The form check fails: a bad frame. -/
  | badForm
  /-- The form is good and the version is not 1: VersionPolicy decides. -/
  | otherVersion
  /-- A good frame. -/
  | good (f : Frame)
  deriving DecidableEq, Repr

/-- The form check of R191 and the version check of R167, on the bytes of a frame heard. DESIGN CHOICE (log 56): the
rank of the key is its whole first byte, and the class of the payload its whole byte. -/
def hear (bytes : List Byte) : Heard :=
  match checkCrc bytes with
  | some (k1 :: k0 :: ver :: kind :: target :: len :: rest) =>
    if rest.length = len.toNat then
      match readPayload kind rest with
      | some (p, c) =>
        if k1 = p.rank ∧ clsByte (k0.extractLsb' 5 3) = c then
          if ver = 1 then .good { sender := k0.extractLsb' 0 5, target := target, payload := p } else .otherVersion
        else .badForm
      | none => .badForm
    else .badForm
  | _ => .badForm

/-! ### Feeder-link records (11.3) -/

/-- A feeder-link record that passes the form test of R192. -/
inductive FeederRecord where
  | command (vehicle : Half)
  | status (vehicle : Half) (r : StatusReport)
  | done (vehicle : Half) (seq : BitVec 4) (result : Byte) (carrier : Triple)
  | entry (vehicle : Half)
  | exit (vehicle : Half)
  deriving DecidableEq, Repr

/-- The record's fields after its kind byte and vehicle number, by kind and length (11.3). The sequence occupies the
low four bits of its byte, and the others are ignored on receipt (R190). -/
def readFeeder (kind : Nat) (vehicle : Half) (fields : List Byte) : Option FeederRecord :=
  match kind, fields with
  | 1, [_, _, _, _] => some (.command vehicle)
  | 2, [_, _] | 3, [_, _] | 5, [_, _] | 6, [_, _] | 7, [_, _] => some (.command vehicle)
  | 4, [_, _, _] => some (.command vehicle)
  | 16, [p1, p0, m, l, k2, k1, k0, o, h] =>
    some (.status vehicle
      { position := halfOf p1 p0, motion := m, laden := l, carrier := tripleOf k2 k1 k0, owner := o, health := h })
  | 17, [q, r, k2, k1, k0] => some (.done vehicle (q.setWidth 4) r (tripleOf k2 k1 k0))
  | 18, [] => some (.entry vehicle)
  | 19, [] => some (.exit vehicle)
  | _, _ => none

/-- The form test of R99 and R192: the check, the length of the kind, the kind, and the vehicle number. -/
def formTest (bytes : List Byte) : Option FeederRecord :=
  match checkCrc bytes with
  | some (kind :: v1 :: v0 :: fields) =>
    if vehicleInRange (halfOf v1 v0).toNat then readFeeder kind.toNat (halfOf v1 v0) fields else none
  | _ => none

/-- The kind byte and the argument bytes of a command (11.3). -/
def FeederCmd.code : FeederCmd → Byte
  | .goto _ => 1 | .load => 2 | .unload => 3 | .leave _ => 4 | .pass => 5 | .adopt => 6 | .halt => 7

def FeederCmd.argBytes : FeederCmd → List Byte
  | .goto t => bytesOf 2 t
  | .leave st => bytesOf 1 st
  | _ => []

/-- A command as its record goes out on FLTX (R89, 11.3). -/
def SentCmd.encode (c : SentCmd) : List Byte :=
  withCrc (c.cmd.code :: bytesOf 2 c.vehicle ++ bytesOf 1 c.sender ++ c.seq.setWidth 8 :: c.cmd.argBytes)

/-! ### Command-port records (11.4) -/

/-- The length of a command record by its code; `none` for a code the device does not know (11.4). -/
def commandLength : Nat → Option Nat
  | 1 => some 14 | 2 => some 3 | 3 => some 4 | 4 => some 3 | 5 => some 3 | 6 => some 3 | 7 => some 2 | 8 => some 1
  | 9 => some 1 | 10 => some 7 | 11 => some 1 | 12 => some 1 | 13 => some 1 | 14 => some 1 | 15 => some 1 | _ => none

/-- Bytes that are not yet a complete command record (R178): an unknown code is a record of one byte (R179). -/
def incomplete (bytes : List Byte) : Bool :=
  match bytes with
  | [] => true
  | code :: _ => bytes.length < (commandLength code.toNat).getD 1

/-- The command that a complete command record spells (11.4). A one-byte record of an unknown code is
UNKNOWN_COMMAND_CODE (R179); bytes that are no complete record spell none. -/
def readCommand (bytes : List Byte) : Option Instr :=
  match bytes with
  | [] => none
  | code :: args =>
    match code.toNat, args with
    | 1, [t1, t0, k2, k1, k0, c, m, r, n, sp, dk, ds, dp] =>
      some (.submit
        { tag := halfOf t1 t0, carrier := tripleOf k2 k1 k0, cls := c, mode := m, rearm := r, count := n,
          sourcePort := sp, destKind := dk, destStation := ds, destPort := dp })
    | 2, [t1, t0] => some (.cancel (halfOf t1 t0))
    | 3, [p, r, o] => some (.portSet p r o)
    | 4, [v1, v0] => some (.vehicleRemove (halfOf v1 v0))
    | 5, [t1, t0] => some (.jobRead (halfOf t1 t0))
    | 6, [v1, v0] => some (.vehicleRead (halfOf v1 v0))
    | 7, [st] => some (.peerRead st)
    | 8, [] => some .noticeRead
    | 9, [] => some .statusRead
    | 10, [i, x, v3, v2, v1, v0] => some (.cfgWrite i x (halfOf v3 v2 ++ halfOf v1 v0))
    | 11, [] => some .cfgCheck
    | 12, [] => some .start
    | 13, [] => some .stop
    | 14, [] => some .isolate
    | 15, [] => some .resume
    | n, [] => if (commandLength n).isNone then some (.unknownCommandCode code) else none
    | _, _ => none

/-- The command record of a host command (11.4); `none` for a command that is no record of the host. -/
def writeCommand : Instr → Option (List Byte)
  | .submit r =>
    some (1 :: halfBytes r.tag ++ tripleBytes r.carrier ++
      [r.cls, r.mode, r.rearm, r.count, r.sourcePort, r.destKind, r.destStation, r.destPort])
  | .cancel t => some (2 :: halfBytes t)
  | .portSet p r o => some [3, p, r, o]
  | .vehicleRemove v => some (4 :: halfBytes v)
  | .jobRead t => some (5 :: halfBytes t)
  | .vehicleRead v => some (6 :: halfBytes v)
  | .peerRead st => some [7, st]
  | .noticeRead => some [8]
  | .statusRead => some [9]
  | .cfgWrite i x v => some (10 :: i :: x :: halfBytes (v.extractLsb' 16 16) ++ halfBytes (v.extractLsb' 0 16))
  | .cfgCheck => some [11]
  | .start => some [12]
  | .stop => some [13]
  | .isolate => some [14]
  | .resume => some [15]
  | .unknownCommandCode c => some [c]
  | _ => none

end Sys2Proof.Machine
end

