-- ==== Sys2Proof/Machine/Ops.lean ====
section
/-! DEFINITION. The named operations over the tables: looking a record up, changing one record, raising a notice, waking
the Dispatcher, noting bay activity, and the end of a step at which the notices raised join their queue. Every later
operation changes State through these and through the `on…` functions, one per block. -/

namespace Sys2Proof.Machine

/-! ### One function per block -/

def State.onCpc (f : Cpc → Cpc) (s : State) : State := { s with cpc := f s.cpc }
def State.onJt (f : JobTable → JobTable) (s : State) : State := { s with jt := f s.jt }
def State.onPt (f : Vector Port 48 → Vector Port 48) (s : State) : State := { s with pt := f s.pt }
def State.onVr (f : Roster → Roster) (s : State) : State := { s with vr := f s.vr }
def State.onFlc (f : Feeder → Feeder) (s : State) : State := { s with flc := f s.flc }
def State.onCu (f : CallUnit → CallUnit) (s : State) : State := { s with cu := f s.cu }
def State.onHu (f : Handover → Handover) (s : State) : State := { s with hu := f s.hu }
def State.onPbc (f : PeerBus → PeerBus) (s : State) : State := { s with pbc := f s.pbc }
def State.onCfg (f : Cfg → Cfg) (s : State) : State := { s with cfg := f s.cfg }
def State.setPending (b : Bool) (s : State) : State := { s with decisionPending := b }

/-! ### Sorting -/

/-- Puts `x` before the first element it is not behind. -/
def insertBy {α : Type} (le : α → α → Bool) (x : α) : List α → List α
  | [] => [x]
  | y :: ys => if le x y then x :: y :: ys else y :: insertBy le x ys

/-- Sorts by `le`, keeping the order of equal elements. -/
def sortBy {α : Type} (le : α → α → Bool) (l : List α) : List α := l.foldr (insertBy le) []

/-- The least of a list by first part and then second part: of estimates with their vehicle numbers, the nearer
candidate of R11. -/
def least : List (Nat × Nat) → Option (Nat × Nat)
  | [] => none
  | x :: xs =>
    match least xs with
    | none => some x
    | some y => if x.1 < y.1 ∨ (x.1 = y.1 ∧ x.2 ≤ y.2) then some x else some y

/-! ### Time -/

/-- The moment at which a deadline of `n` milliseconds set now expires: when `n` milliseconds have passed, and at the
earliest at the next millisecond of the timebase (R16, R17, R132). -/
def State.deadlineIn (s : State) (n : Nat) : Nat := s.now + max n 1

/-- The 32-bit timebase count, which wraps (R180). -/
def timebase (t : Nat) : Nat := t % 2 ^ 32

/-- A deadline that is present and has been reached. -/
def State.due (s : State) : Option Nat → Bool
  | some t => t ≤ s.now
  | none => false

/-! ### Notices (R180) -/

/-- Raises a notice in the step under way. -/
def post (b : NoticeBody) (s : State) : State :=
  s.onCpc fun c => { c with raised := c.raised ++ [{ body := b, time := timebase s.now }] }

/-- The number of the rule that raises a notice, by which the notices of one step are ordered (R180). -/
def NoticeBody.rule : NoticeBody → Nat
  | .portMismatch .. => 31
  | .jobRedirected .. => 36
  | .jobDone .. | .jobHanded .. | .jobCancelled .. | .jobFailed .. => 46
  | .stopped .. => 48
  | .vehicleLost _ .statusSilence => 68
  | .vehicleLost _ .lostHoldExpired => 69
  | .vehicleFault .. => 75
  | .inboundLost .. => 83
  | .stray .. | .strayRefused .. => 84
  | .ownerConflict .. => 85
  | .noLender .. => 124
  | .inboundOverdue .. => 156
  | .txDrop .. => 164
  | .duplicateStation .. => 168
  | .lineSwitch _ .errors | .busDegraded .. => 171
  | .lineSwitch _ .silence => 172
  | .levelChange _ .run .host => 184
  | .levelChange .. => 185

/-- The notices raised in the step join the queue in rule order; past 32 they are dropped and the overflow flag is set
(R180). -/
def joinNotices (s : State) : State :=
  s.onCpc fun c =>
    let joined := c.notices ++ sortBy (fun a b => a.body.rule ≤ b.body.rule) c.raised
    { c with
      notices := joined.take Config.noticeSlots
      overflow := c.overflow || Config.noticeSlots < joined.length
      raised := [] }

/-! ### The Dispatcher's mark and bay activity -/

/-- A wake sets the decision-pending mark; in CONFIG it is discarded (R100). -/
def wake (s : State) : State :=
  if s.cpc.level = .config then s else s.setPending true

/-- Bay activity clears QUIET and restarts the quiet timer with a full QuietInterval; with QuietInterval 0 the timer
does not run (R128). -/
def startQuietTimer (s : State) : State :=
  s.onCu fun c =>
    { c with
      quiet := false
      quietDeadline := if s.cfg.quietInterval = 0 then none else some (s.deadlineIn (s.cfg.quietInterval * 1000)) }

/-! ### Jobs -/

def findJob (tag : Nat) (s : State) : Option Job := s.jt.jobs.find? fun j => j.tag == tag

def modifyJob (tag : Nat) (f : Job → Job) (s : State) : State :=
  s.onJt fun t => { t with jobs := t.jobs.map fun j => if j.tag = tag then f j else j }

/-- The sender tag of a live job, which its notices carry (R21). -/
def senderTagOf (tag : Nat) (s : State) : Option Nat := (findJob tag s).bind (·.senderTag)

/-- A job returned to WAITING, bound to no vehicle and named by no call (R19). -/
def Job.toWaiting (reason : Option HoldReason) (j : Job) : Job :=
  { j with state := .waiting, holdReason := reason, vehicle := none, callLink := none }

/-- The job returns to WAITING and the Dispatcher is woken (R100). -/
def jobToWaiting (tag : Nat) (reason : Option HoldReason) (s : State) : State :=
  wake (modifyJob tag (Job.toWaiting reason) s)

/-! ### Ports -/

def getPort (p : Nat) (s : State) : Port := s.pt.getD p Port.reset

def modifyPort (p : Nat) (f : Port → Port) (s : State) : State :=
  s.onPt fun t => t.setIfInBounds p (f (t.getD p Port.reset))

/-- A port that may be a destination (R51). -/
def Port.takes (p : Port) : Bool := p.mode == .take || p.mode == .both

/-- A port that may be a source (R51). -/
def Port.supplies (p : Port) : Bool := p.mode == .supply || p.mode == .both

/-- Room, with `promised` further places counted as reserved (R52; R106 for the places promised in one pass). -/
def Port.hasRoom (promised : Nat) (p : Port) : Bool := p.takes && p.occupied + p.reserved + promised < p.capacity

/-- Changes a port's occupied count; a change of the count wakes the Dispatcher (R61). -/
def setOccupied (p n : Nat) (s : State) : State :=
  if (getPort p s).occupied = n then s else wake (modifyPort p (fun q => { q with occupied := n }) s)

/-- Releases the reservation that the job holds, if it holds one (R54). -/
def releaseReservation (tag : Nat) (s : State) : State :=
  match (findJob tag s).bind (·.reservation) with
  | some p =>
    wake (modifyPort p (fun q => { q with reserved := q.reserved - 1 })
      (modifyJob tag (fun j => { j with reservation := none }) s))
  | none => s

/-- Requests a delivery reservation for a live job (R53): granted when the port has room, and then the reserved count
and the job's field change in one step. A job holds at most one reservation, so one it still held is released. -/
def reserve (tag p : Nat) (s : State) : Option State :=
  let s' := releaseReservation tag s
  if (findJob tag s').isSome && (getPort p s').hasRoom 0 then
    some (wake (modifyPort p (fun q => { q with reserved := q.reserved + 1 })
      (modifyJob tag (fun j => { j with reservation := some p }) s')))
  else none

/-- A reservation requested where a refusal lets the job go on without one (R36, R41). -/
def tryReserve (tag p : Nat) (s : State) : State := (reserve tag p s).getD s

/-- The job's source-port wait ends: its entry leaves the wait list and the entries behind close up (R58). -/
def endWait (tag : Nat) (s : State) : State :=
  s.onPt fun t => t.map fun q => { q with waitList := q.waitList.filter fun w => w.tag ≠ tag }

/-! ### Roster records -/

def findVehicle (v : Nat) (s : State) : Option Vehicle := s.vr.records.find? fun r => r.vehicle == v

def modifyVehicle (v : Nat) (f : Vehicle → Vehicle) (s : State) : State :=
  s.onVr fun t => { t with records := t.records.map fun r => if r.vehicle = v then f r else r }

def removeVehicle (v : Nat) (s : State) : State :=
  s.onVr fun t => { t with records := t.records.filter fun r => r.vehicle ≠ v }

/-- An owned state is every state except EXPECTED and LOST (chapter 4.1). -/
def VehicleState.owned : VehicleState → Bool
  | .expected | .lost => false
  | _ => true

/-- A record enters a state: the target belongs to the state left (R64), a park slot is held in PARKING alone and the
parking deadline runs in IDLE alone (R86). -/
def Vehicle.enter (st : VehicleState) (r : Vehicle) : Vehicle :=
  { r with state := st, target := none, parkSlot := none, parkDeadline := none }

/-- The record becomes IDLE: idle since takes the present time, its parking deadline is set, and the Dispatcher is
woken (R74, R86). -/
def becomeIdle (v : Nat) (s : State) : State :=
  wake (modifyVehicle v (fun r =>
    { r.enter .idle with
      idleSince := some s.now
      parkDeadline := some (s.deadlineIn (s.cfg.parkDelay * 1000)) }) s)

/-- The record's current-job and next-job fields lose the job named (R46, R65). -/
def unbindRecord (v tag : Nat) (s : State) : State :=
  modifyVehicle v (fun r =>
    { r with
      currentJob := if r.currentJob = some tag then none else r.currentJob
      nextJob := if r.nextJob = some tag then none else r.nextJob }) s

/-! ### Retirement (R46) -/

/-- A job retires: the notice of the outcome is raised, its reservation is released, its vehicle's record no longer
names it, its tag leaves the admission order list, and the retirement is bay activity. -/
def retire (tag : Nat) (notice : Option NoticeBody) (s : State) : State :=
  match findJob tag s with
  | none => s
  | some j =>
    let s := match notice with
      | some b => post b s
      | none => s
    let s := endWait tag (releaseReservation tag s)
    let s := match j.vehicle with
      | some (v, _) => unbindRecord v tag s
      | none => s
    startQuietTimer (s.onJt fun t => { t with jobs := t.jobs.filter fun j => j.tag ≠ tag })

/-! ### Stations -/

def stationByte (n : Nat) : Byte := BitVec.ofNat 8 n

def getPeer (st : Nat) (s : State) : Peer := s.pbc.peers.getD st Peer.reset

def modifyPeer (st : Nat) (f : Peer → Peer) (s : State) : State :=
  s.onPbc fun b => { b with peers := b.peers.setIfInBounds st (f (b.peers.getD st Peer.reset)) }

def legTo (st : Nat) (s : State) : Nat := s.cfg.leg.getD st 0

end Sys2Proof.Machine
end

