-- ==== Sys2Proof/Machine/Flags.lean ====
section
/-! DEFINITION. Every quantity the device forms when it is read and never stores: forward distance, travel estimates,
urgency and time limits (chapter 1), the candidate classes of R8, the counts of the tables (R18, R63, R127), the level
and the notice line as the pins show them. -/

namespace Sys2Proof.Machine

/-! ### Distance and estimates (chapter 1) -/

/-- The forward distance d(p,q) = (q − p + L) mod L (R4), for a position p on the loop. -/
def dist (loopLength p q : Nat) : Nat := (q + loopLength - p) % loopLength

def State.dist (s : State) (p q : Nat) : Nat := Machine.dist s.cfg.loopLength p q

/-- Addition saturating at 65535 (R7). -/
def satAdd (a b : Nat) : Nat := min (a + b) Config.estimateMax

/-- The position every estimate uses: the one held in the record (R6). -/
def Vehicle.pos (r : Vehicle) : Nat := r.position.getD 0

/-- The position of a job's source port, its pickup position k (R51). -/
def pickupPosition (j : Job) (s : State) : Nat :=
  match j.source with
  | .port p => (getPort p s).position
  | .arrival => 0

/-- The place a laden vehicle of the job travels to: its destination port, or X for a remote destination (R31). -/
def dropPosition (j : Job) (s : State) : Nat :=
  match j.dest with
  | .here p => (getPort p s).position
  | .remote _ _ => s.cfg.exitPoint

/-- An IDLE or PARKING record that names neither a current job nor a next job (R8, R63). -/
def Vehicle.isIdle (r : Vehicle) : Bool :=
  (r.state == .idle || r.state == .parking) && r.currentJob.isNone && r.nextJob.isNone

/-- A job that releases its vehicle after this delivery (R8): all but RUN and DEMAND jobs whose count is 2 or more. -/
def Job.releasesVehicle (j : Job) : Bool := j.mode == .single || j.count < 2

/-- The chain candidate's drop position, where the record is a chain candidate (R8): LADEN or UNLOADING, its current
job CARRYING toward a local port and releasing it after this delivery, and no next job named. -/
def chainDrop (r : Vehicle) (s : State) : Option Nat :=
  if (r.state == .laden || r.state == .unloading) && r.nextJob.isNone then
    match r.currentJob.bind fun t => findJob t s with
    | some j =>
      match j.dest with
      | .here p => if j.state == .carrying && j.releasesVehicle then some (getPort p s).position else none
      | .remote _ _ => none
    | none => none
  else none

/-- The travel estimate of a candidate for pickup position k (R9, R10); none for a record that is no candidate. -/
def estimate (r : Vehicle) (k : Nat) (s : State) : Option Nat :=
  if r.isIdle then some (s.dist r.pos k)
  else
    match chainDrop r s with
    | some q =>
      let toDrop := if r.state = .unloading then 0 else s.dist r.pos q
      some (satAdd (satAdd toDrop s.cfg.hoistAllowance) (s.dist q k))
    | none => none

/-- The lender's offer estimate for caller c: d(p,X) + Leg[c], saturating (R12). -/
def offerEstimate (p caller : Nat) (s : State) : Nat := satAdd (s.dist p s.cfg.exitPoint) (legTo caller s)

/-- The caller total of an offer for pickup position k: ETA_offer + d(0,k), saturating (R13). -/
def callerTotal (eta k : Nat) (s : State) : Nat := satAdd eta (s.dist 0 k)

/-- Urgency U = ClassBase[class] − age × AgeGain, and 0 below 0 (R14). -/
def urgency (j : Job) (s : State) : Nat := s.cfg.classBase.getD j.cls 0 - j.age * s.cfg.ageGain

/-- The time limit of a command, formed from the vehicle's recorded position p when it goes in flight (R16, R17). -/
def timeLimit (c : FeederCmd) (p : Nat) (s : State) : Nat :=
  match c with
  | .goto t => min (s.cfg.travelBase + s.dist p t * s.cfg.markAllow) Config.moveLimitMax
  | .leave _ => min (s.cfg.travelBase + s.dist p s.cfg.exitPoint * s.cfg.markAllow) Config.moveLimitMax
  | .load | .unload => s.cfg.hoistLimit * 1000
  | .halt | .adopt => Config.shortLimit
  | .pass => 0

/-! ### Counts -/

/-- Free job slots (R18). -/
def freeJobSlots (s : State) : Nat := Config.jobSlots - s.jt.jobs.length

/-- Waiting jobs: live records in WAITING or CALLING (R18). -/
def waitingJobs (s : State) : Nat :=
  (s.jt.jobs.filter fun j => j.state == .waiting || j.state == .calling).length

/-- The idle count (R63). -/
def idleCount (s : State) : Nat := (s.vr.records.filter Vehicle.isIdle).length

/-- Free roster records (R63). -/
def freeRecords (s : State) : Nat := Config.rosterSlots - s.vr.records.length

/-- Spare: the idle count less ReserveFloor, which is taken as 0 while the bay is QUIET (R127). -/
def spare (s : State) : Nat := idleCount s - (if s.cu.quiet then 0 else s.cfg.reserveFloor)

/-- The vehicle that holds a park slot (R86). -/
def parkOccupant (slot : Nat) (s : State) : Option Nat :=
  (s.vr.records.find? fun r => r.parkSlot == some slot).map (·.vehicle)

/-- The place of a tag in the admission order list, counted from 1 (R20). -/
def admissionPlace (tag : Nat) (s : State) : Nat := s.jt.jobs.findIdx (fun j => j.tag == tag) + 1

/-- The lowest tag from 32768 up that no live record holds, or 0 where none is free (R21). -/
def provisionalTag (s : State) : Nat :=
  ((List.range (Config.jobSlots + 1)).map (· + Config.provisionalBase)).find? (fun t => (findJob t s).isNone)
    |>.getD 0

/-- The fallback port. START needs a store that CFG_CHECK has passed, so at RUN and ISOLATED it is present (R183). -/
def fallbackPort (s : State) : Nat := s.cfg.fallback.getD 0

/-- The ask list entry of a job (R141). -/
def findAsk (tag : Nat) (s : State) : Option AskEntry := s.hu.askList.find? fun e => e.tag == tag

/-! ### What the pins show -/

/-- The operating level; while the reset pin is asserted the device has none (R188). -/
def levelNow (s : State) : Option Level := if s.held then none else some s.cpc.level

/-- NOTICEN is driven low while the queue holds a notice, and released in reset (R180, R188). -/
def noticeLineLow (s : State) : Bool := !s.held && !s.cpc.notices.isEmpty

end Sys2Proof.Machine
end

