-- ==== Sys2Proof/Machine/Feeder.lean ====
section
/-! DEFINITION. The Feeder Link Controller's own operations (chapter 5): the link table, transmission, the placing of
commands and HALTs in a vehicle's context, clearing, and the counting of format errors. -/

namespace Sys2Proof.Machine

/-! ### Link table (R89) -/

def getLink (v : Nat) (s : State) : LinkEntry :=
  (s.flc.link.find? fun e => e.vehicle == v).getD { vehicle := v, nextSeq := 0, formatErrors := 0 }

/-- An entry at its reset value, which the list does not hold. -/
def LinkEntry.blank (e : LinkEntry) : Bool := e.nextSeq == 0 && e.formatErrors == 0

/-- Stores an entry in a link list kept by rising vehicle number. -/
def putLink (e : LinkEntry) : List LinkEntry → List LinkEntry
  | [] => if e.blank then [] else [e]
  | x :: xs =>
    if x.vehicle < e.vehicle then x :: putLink e xs
    else if x.vehicle = e.vehicle then if e.blank then xs else e :: xs
    else if e.blank then x :: xs else e :: x :: xs

def setLink (e : LinkEntry) (s : State) : State := s.onFlc fun f => { f with link := putLink e f.link }

/-- Addition to a total of the link, saturating at 65535 (R89). -/
def bump16 (n : Nat) : Nat := min (n + 1) 65535

/-- A record that fails the form test counts against no vehicle (R99). -/
def countFormFailure (s : State) : State := s.onFlc fun f => { f with formatTotal := bump16 f.formatTotal }

/-- A format error for a vehicle: its count and the total rise, and it becomes the last counted (R99). -/
def countFormatError (v : Nat) (s : State) : State :=
  let e := getLink v s
  (setLink { e with formatErrors := min (e.formatErrors + 1) 255 } (countFormFailure s)).onFlc
    fun f => { f with lastCounted := some v }

/-- An unmatched DONE (R95). -/
def countUnmatched (s : State) : State := s.onFlc fun f => { f with unmatchedTotal := bump16 f.unmatchedTotal }

/-! ### Transmission (R89) -/

/-- Transmits a command once: it takes the vehicle's next sequence number, and the entry advances. -/
def transmit (v : Nat) (c : FeederCmd) (s : State) : State :=
  let e := getLink v s
  (setLink { e with nextSeq := e.nextSeq + 1 } s).onFlc
    fun f => { f with sent := f.sent ++ [{ vehicle := v, sender := s.cfg.station, seq := e.nextSeq, cmd := c }] }

/-- The moment at which the time limit of a command that goes in flight now expires (R16, R17). -/
def limitEnd (v : Nat) (c : FeederCmd) (s : State) : Nat :=
  s.deadlineIn (timeLimit c (((findVehicle v s).map Vehicle.pos).getD 0) s)

/-! ### Contexts (R92) -/

def findContext (v : Nat) (s : State) : Option Context := s.flc.contexts.find? fun c => c.vehicle == v

/-- Stores a context; one whose two slots are empty is freed. -/
def putContext (c : Context) (s : State) : State :=
  s.onFlc fun f =>
    { f with
      contexts := (f.contexts.filter fun x => x.vehicle ≠ c.vehicle) ++
        (if c.inFlight.isNone && c.queued.isNone then [] else [c]) }

/-- The vehicle's context, empty where it has none. -/
def contextOf (v : Nat) (s : State) : Context :=
  (findContext v s).getD { vehicle := v, inFlight := none, queued := none }

/-- Transmits a command and puts it in flight with its sequence number and limit (R93). -/
def goInFlight (v : Nat) (c : FeederCmd) (s : State) : State :=
  putContext
    { vehicle := v,
      inFlight := some
        { cmd := c, seq := (getLink v s).nextSeq, deadline := limitEnd v c s, haltSent := false, latest := true },
      queued := none }
    (transmit v c s)

/-- Places a command other than HALT (R93). -/
def requestCmd (v : Nat) (c : FeederCmd) (s : State) : State :=
  let x := contextOf v s
  match x.inFlight with
  | none => goInFlight v c s
  | some _ => putContext { x with queued := some (.waiting c) } s

/-- A command that a HALT cancels (R91, R94). -/
def FeederCmd.cancelledByHalt : FeederCmd → Bool
  | .goto _ | .leave _ | .pass => true
  | _ => false

/-- Places a HALT ahead of a busy vehicle's command (R94). -/
def requestHalt (v : Nat) (s : State) : State :=
  let x := contextOf v s
  match x.inFlight with
  | none => goInFlight v .halt s
  | some i =>
    if i.cmd = .halt then putContext { x with queued := none } s
    else
      putContext
        { x with
          inFlight := some { i with haltSent := i.haltSent || i.cmd.cancelledByHalt }
          queued := some (.haltSent (getLink v s).nextSeq (limitEnd v .halt s)) }
        (transmit v .halt s)

/-- The in-flight slot has been emptied: the queued command goes in flight (R93). A HALT already transmitted moves up
with its number and limit. -/
def advanceContext (v : Nat) (s : State) : State :=
  let x := contextOf v s
  match x.queued with
  | none => putContext { x with inFlight := none } s
  | some (.waiting c) => goInFlight v c s
  | some (.haltSent q d) =>
    putContext
      { x with
        inFlight := some { cmd := .halt, seq := q, deadline := d, haltSent := false, latest := true }
        queued := none } s

/-- Clear all: the vehicle's context is freed, its command in flight abandoned (R98). -/
def clearAll (v : Nat) (s : State) : State :=
  s.onFlc fun f => { f with contexts := f.contexts.filter fun x => x.vehicle ≠ v }

/-- Clear queued: an untransmitted command is discarded, a HALT already transmitted is kept (R98). -/
def clearQueued (v : Nat) (s : State) : State :=
  match findContext v s with
  | some x =>
    match x.queued with
    | some (.waiting _) => putContext { x with queued := none } s
    | _ => s
  | none => s

/-- A command is in flight for the vehicle. -/
def commandInFlight (v : Nat) (s : State) : Bool := (contextOf v s).inFlight.isSome

/-! ### The roster's GOTO requests -/

/-- A GOTO in flight for the vehicle is no longer the last one requested (R70). -/
def supersede (v : Nat) (s : State) : State :=
  s.onFlc fun f =>
    { f with
      contexts := f.contexts.map fun x =>
        if x.vehicle = v then { x with inFlight := x.inFlight.map fun i => { i with latest := false } } else x }

/-- The roster requests a GOTO, which sets the record's target (R64, R70). -/
def requestGoto (v t : Nat) (s : State) : State :=
  requestCmd v (.goto t) (supersede v (modifyVehicle v (fun r => { r with target := some t }) s))

end Sys2Proof.Machine
end

