-- ==== Sys2Proof/Machine/Bus.lean ====
section
/-! DEFINITION. The sending side of the Peer Bus Controller (R164, R165, R173): the transmit queue in key order,
displacement and discard, and what a CALL discarded unsent does to its own call (R119, R124); and the two lines, their
error counters and their selection (R170 to R172). -/

namespace Sys2Proof.Machine

/-! ### The transmit queue (R164) -/

/-- The key by which one station's frames are ordered: rank × 256 + class × 32, the station number being the same for
all (R163). -/
def TxFrame.order (f : TxFrame) : Nat := f.payload.rank.toNat * 256 + f.payload.cls.toNat * 32

def TxFrame.isBeacon (f : TxFrame) : Bool := f.payload.rank == 3

def dropNotice (f : TxFrame) : NoticeBody := .txDrop f.payload.kind.toNat f.target

/-- Replaces the queued BEACON, in its place. -/
def replaceBeacon (f : TxFrame) (q : List TxFrame) : List TxFrame := q.map fun g => if g.isBeacon then f else g

def setQueue (q : List TxFrame) (s : State) : State := s.onPbc fun b => { b with txQueue := q }

/-- Behind every frame of the same key: a frame newly queued. -/
def joinBehind : TxFrame → List TxFrame → List TxFrame := insertBy fun a b => a.order < b.order

/-- Ahead of every frame of the same key: a frame that returns with its original queue time, which is the earliest of
its key (R165). -/
def joinAhead : TxFrame → List TxFrame → List TxFrame := insertBy fun a b => a.order ≤ b.order

/-- The last two rows of R164, at a full queue: the new frame displaces the queued frame of the highest key, the one
queued latest among several, or is itself discarded. The answer names the frame dropped. -/
def placeAtFull (f : TxFrame) (s : State) : State × Option TxFrame :=
  match s.pbc.txQueue.getLast? with
  | some w =>
    if f.order < w.order then (post (dropNotice w) (setQueue (joinBehind f s.pbc.txQueue.dropLast) s), some w)
    else (post (dropNotice f) s, some f)
  | none => (setQueue [f] s, none)

/-- A newly requested frame is queued (R164): the queue is as given, and a BEACON marks the frame on the line as older
than itself (R165). -/
def queueNew (f : TxFrame) (q : List TxFrame) (s : State) : State :=
  s.onPbc fun b =>
    { b with
      txQueue := q
      onLine := if f.isBeacon then b.onLine.map fun o => { o with newerBeacon := true } else b.onLine }

/-- Places a requested frame in the transmit queue (R164). The answer names the frame that leaves unsent, if any. -/
def placeFrame (f : TxFrame) (s : State) : State × Option TxFrame :=
  let q := s.pbc.txQueue
  if s.cpc.level = .isolated then (s, some f)
  else if f.isBeacon && q.any TxFrame.isBeacon then (queueNew f (replaceBeacon f q) s, none)
  else if q.length < Config.txSlots then (queueNew f (joinBehind f q) s, none)
  else placeAtFull f s

/-! ### A call whose window ends without a take (R124) -/

def findOwnCall (id : CallId) (s : State) : Option OwnCall := s.cu.ownCalls.find? fun c => c.id == id

def modifyOwnCall (slot : Nat) (f : OwnCall → OwnCall) (s : State) : State :=
  s.onCu fun c => { c with ownCalls := c.ownCalls.map fun x => if x.slot = slot then f x else x }

/-- A slot is freed, which wakes the Dispatcher (R100). -/
def freeSlot (slot : Nat) (s : State) : State :=
  wake (s.onCu fun c => { c with ownCalls := c.ownCalls.filter fun x => x.slot ≠ slot })

/-- The job of an exhausted call returns to WAITING with NO_LENDER and call barred, and the notice is raised (R26,
R124). -/
def exhaustJob (tag : Nat) (id : CallId) (s : State) : State :=
  jobToWaiting tag (some .noLender)
    (modifyJob tag (fun j => { j with callBarred := true }) (post (.noLender tag (senderTagOf tag s) id) s))

/-- Settles a call whose window ended without a take: RETRY_WAIT while retries are left, and else exhausted. The
answer is true where it is exhausted, so that a CLOSE is due (R124). -/
def settleWindow (c : OwnCall) (s : State) : State × Bool :=
  if c.retries < s.cfg.callRetries then
    (modifyOwnCall c.slot (fun x =>
      { x with
        state := .retryWait
        windowDeadline := none
        best := none
        retryDeadline := some (s.deadlineIn s.cfg.callRetryInterval) }) s, false)
  else (exhaustJob c.tag c.id (freeSlot c.slot s), true)

def closeFrame (id : CallId) (target : Byte) : TxFrame := { target := target, payload := .close id }

/-- The own call whose CALL a report names: in OPEN, without a window deadline (R119). -/
def unsentCall (id : CallId) (s : State) : Option OwnCall :=
  (findOwnCall id s).filter fun c => c.state == .openCall && c.windowDeadline.isNone

/-- Requests a frame for transmission (R164). Where a CALL leaves the queue unsent, its call is settled as a window
that ended without offers (R119), and the CLOSE of an exhausted one is requested in turn. Each such turn uses up an
own call in OPEN that has no window, and there are at most four: the first argument bounds the turns. -/
def requestFrameWithin : Nat → TxFrame → State → State
  | 0, f, s => (placeFrame f s).1
  | n + 1, f, s =>
    match placeFrame f s with
    | (s, none) => s
    | (s, some dropped) =>
      match dropped.payload with
      | .call id _ _ =>
        match unsentCall id s with
        | some c =>
          match settleWindow c s with
          | (s, true) => requestFrameWithin n (closeFrame id Config.allStations) s
          | (s, false) => s
        | none => s
      | _ => s

def requestFrame (target : Byte) (p : Payload) (s : State) : State :=
  requestFrameWithin (Config.callPlaces + 1) { target := target, payload := p } s

/-- CLOSE for a call id to all stations. -/
def closeAll (id : CallId) (s : State) : State := requestFrame Config.allStations (.close id) s

/-- A window ends without a take (R124). -/
def windowWithoutTake (c : OwnCall) (s : State) : State :=
  match settleWindow c s with
  | (s, true) => closeAll c.id s
  | (s, false) => s

/-- A frame has left the device unsent, and the block that handed it over is told (R164): for a CALL, the Call Unit
treats its window as ended without offers. -/
def toldUnsent (f : TxFrame) (s : State) : State :=
  match f.payload with
  | .call id _ _ =>
    match unsentCall id s with
    | some c => windowWithoutTake c s
    | none => s
  | _ => s

/-- The values a BEACON carries, formed when it is requested (R173). -/
def beaconPayload (s : State) : Payload :=
  .beacon (BitVec.ofNat 8 (spare s)) (BitVec.ofNat 8 (freeRecords s)) (BitVec.ofNat 8 (freeJobSlots s))
    (BitVec.ofNat 8 (waitingJobs s)) (BitVec.ofNat 8 (yesNo s.cu.quiet))

def requestBeacon (s : State) : State := requestFrame Config.allStations (beaconPayload s) s

/-! ### The two lines (R170 to R172) -/

def State.err (s : State) : Line → Nat
  | .a => s.pbc.errA
  | .b => s.pbc.errB

def setErr (l : Line) (n : Nat) (s : State) : State :=
  s.onPbc fun b =>
    match l with
    | .a => { b with errA := n }
    | .b => { b with errB := n }

/-- The silence timer starts afresh (R172). -/
def restartSilence (s : State) : State :=
  s.onPbc fun b => { b with silenceDeadline := s.deadlineIn s.cfg.silenceLimit, standbyHeard := false }

/-- The standby line becomes the observed line (R171, R172). -/
def switchLine (cause : SwitchCause) (s : State) : State :=
  let new := s.pbc.observed.other
  restartSilence (post (.lineSwitch new cause) (s.onPbc fun b => { b with observed := new }))

/-- A counter is above the threshold when it is greater than ErrThreshold (R171). -/
def aboveThreshold (l : Line) (s : State) : Bool := s.cfg.errThreshold < s.err l

/-- The tests that follow each change of an error counter (R171). -/
def lineTests (s : State) : State :=
  let obs := aboveThreshold s.pbc.observed s
  let stb := aboveThreshold s.pbc.observed.other s
  if obs && stb then
    if s.pbc.degraded then s
    else post (.busDegraded s.pbc.errA s.pbc.errB) (s.onPbc fun b => { b with degraded := true })
  else
    let s := s.onPbc fun b => { b with degraded := false }
    if obs then switchLine .errors s else s

/-- A counter takes a value; where it changes, the tests of R171 follow at once (R170). -/
def moveErr (l : Line) (n : Nat) (s : State) : State := if s.err l = n then s else lineTests (setErr l n s)

/-- A bad frame on a line (R170). -/
def countBad (l : Line) (s : State) : State := moveErr l (min (s.err l + 1) 255) s

/-- A good frame on a line: on the observed line it restarts the silence timer, on the standby line it is remembered
for the timer's expiry (R172); and it lowers the line's counter (R170). -/
def countGood (l : Line) (s : State) : State :=
  let s := if l = s.pbc.observed then restartSilence s else s.onPbc fun b => { b with standbyHeard := true }
  moveErr l (s.err l - 1) s

end Sys2Proof.Machine
end

