-- ==== Sys2Proof/Machine/Handover.lean ====
section
/-! DEFINITION. The Handover Unit's own operations (chapter 8): the ask list (R141 to R145), the exit queue and its
LEAVE (R142, R148, R149). -/

namespace Sys2Proof.Machine

/-! ### The ask list (R141) -/

def modifyAsk (tag : Nat) (f : AskEntry → AskEntry) (s : State) : State :=
  s.onHu fun h => { h with askList := h.askList.map fun e => if e.tag = tag then f e else e }

/-- An entry ends, and its deadlines with it (R141). -/
def endAsk (tag : Nat) (s : State) : State :=
  s.onHu fun h => { h with askList := h.askList.filter fun e => e.tag ≠ tag }

/-- The condition for sending an ASK to a station (R143). -/
def mayAsk (st : Nat) (s : State) : Bool :=
  let p := getPeer st s
  s.cpc.level == .run && p.state == .live && 0 < p.freeRecords && 0 < p.freeJobSlots

/-- The first value from the counter on that the test does not refuse; the test refuses at most `n` values. -/
def nextFree (refused : Byte → Bool) : Nat → Byte → Byte
  | 0, q => q
  | n + 1, q => if refused q then nextFree refused n (q + 1) else q

/-- The ask seq an entry has or takes at its first ASK: the counter's value, values held by an entry being skipped
(R141). -/
def askSeqFor (e : AskEntry) (s : State) : Byte :=
  e.askSeq.getD (nextFree (fun q => s.hu.askList.any fun x => x.askSeq == some q) Config.rosterSlots s.hu.askSeq)

/-- Sends an ASK for an entry, the first or a re-send (R143, R144): ASKING with a new retry deadline; the admit
deadline is set where none runs; the job's hold reason is cleared. -/
def sendAsk (e : AskEntry) (s : State) : State :=
  match findJob e.tag s with
  | none => s
  | some j =>
    let q := askSeqFor e s
    let s := s.onHu fun h => { h with askSeq := if e.askSeq.isNone then q + 1 else h.askSeq }
    let s := modifyAsk e.tag (fun x =>
      { x with
        askSeq := some q
        state := .asking
        retryDeadline := some (s.deadlineIn s.cfg.askRetry)
        admitDeadline := some (x.admitDeadline.getD (s.deadlineIn (s.cfg.admitWait * 1000))) }) s
    let s := modifyJob e.tag (fun x => { x with askSeq := some q, holdReason := none }) s
    requestFrame (stationByte e.station)
      (.ask q (BitVec.ofNat 16 e.vehicle) (BitVec.ofNat 24 j.carrier) (BitVec.ofNat 3 j.cls) (BitVec.ofNat 8 j.age)
        (BitVec.ofNat 8 e.port)) s

/-- An entry whose ASK may not be sent is HELD, its retry deadline is removed and its job takes PEER_DOWN (R143,
R144). -/
def holdAsk (tag : Nat) (s : State) : State :=
  modifyJob tag (fun j => { j with holdReason := some .peerDown })
    (modifyAsk tag (fun e => { e with state := .held, retryDeadline := none }) s)

/-- Sends the ASK that is due, or holds the entry (R143, R144). -/
def askOrHold (e : AskEntry) (s : State) : State := if mayAsk e.station s then sendAsk e s else holdAsk e.tag s

/-- The entry of a job whose carrier has been loaded for a remote destination (R141, R143). -/
def createAsk (tag v st port : Nat) (s : State) : State :=
  let e : AskEntry :=
    { tag := tag, vehicle := v, station := st, port := port, askSeq := none, state := .held, retryDeadline := none,
      admitDeadline := none }
  askOrHold e (s.onHu fun h => { h with askList := h.askList ++ [e] })

/-- A HELD entry tested again is sent its ASK where the test passes (R143). -/
def retestEntry (s : State) (tag : Nat) : State :=
  match findAsk tag s with
  | some e => if e.state = .held ∧ mayAsk e.station s then sendAsk e s else s
  | none => s

/-- The HELD entries for a station are tested again (R143). DESIGN CHOICE (log 53): in the order of the list. -/
def retestHeld (st : Nat) (s : State) : State :=
  ((s.hu.askList.filter fun e => e.station == st).map (·.tag)).foldl retestEntry s

/-- Every HELD entry is tested again, at RESUME (R159). DESIGN CHOICE (log 53): in the order of the list. -/
def retestAllHeld (s : State) : State := (s.hu.askList.map (·.tag)).foldl retestEntry s

/-! ### The exit queue (R142) -/

def findExit (v : Nat) (s : State) : Option ExitEntry := s.hu.exitQueue.find? fun e => e.vehicle == v

def modifyExit (v : Nat) (f : ExitEntry → ExitEntry) (s : State) : State :=
  s.onHu fun h => { h with exitQueue := h.exitQueue.map fun e => if e.vehicle = v then f e else e }

/-- A record leaves the exit queue, and the entries behind it move up (R148). -/
def leaveQueue (v : Nat) (s : State) : State :=
  s.onHu fun h => { h with exitQueue := h.exitQueue.filter fun e => e.vehicle ≠ v }

def joinQueue (e : ExitEntry) (s : State) : State := s.onHu fun h => { h with exitQueue := h.exitQueue ++ [e] }

/-- The station a LEAVE names: the job's destination station for a LADEN entry, the lend part's caller for a LENT one
(R149). -/
def leaveStation (r : Vehicle) (s : State) : Nat :=
  match r.lend with
  | some l => l.caller
  | none =>
    match r.currentJob.bind fun t => (findJob t s).map Job.dest with
    | some (.remote st _) => st
    | _ => 0

/-- LEAVE is sent to the head of the exit queue when it may leave and none has been sent (R149). -/
def leaveHead (s : State) : State :=
  match s.hu.exitQueue with
  | [] => s
  | e :: _ =>
    if e.mayLeave && !e.leaveSent then
      match findVehicle e.vehicle s with
      | some r =>
        requestCmd e.vehicle (.leave (leaveStation r s)) (modifyExit e.vehicle (fun x => { x with leaveSent := true }) s)
      | none => s
    else s

/-- An entry becomes GRANTED: its deadlines are removed, the job's hold reason is cleared, and a vehicle already in the
exit queue may leave (R145). -/
def grantAsk (e : AskEntry) (s : State) : State :=
  modifyExit e.vehicle (fun x => { x with mayLeave := true })
    (modifyJob e.tag (fun j => { j with holdReason := none })
      (modifyAsk e.tag (fun x => { x with state := .granted, retryDeadline := none, admitDeadline := none }) s))

end Sys2Proof.Machine
end

