-- ==== Sys2Proof/Machine/Roster.lean ====
section
/-! DEFINITION. What becomes of a vehicle and the jobs bound to it: release (R74), fault and loss (R42, R68, R76),
redirection (R36), arrival at the source, at the drop and at X (R57, R71, R72, R79), exit (R80, R151), pledges and their
endings (R78, R79, R134). -/

namespace Sys2Proof.Machine

/-! ### Release (R74) -/

/-- The record becomes TO_PICKUP for a job bound to it as CURRENT, and is sent to the job's source port (R65, R74). -/
def sendToPickup (v tag : Nat) (s : State) : State :=
  let k := ((findJob tag s).map fun j => pickupPosition j s).getD 0
  requestGoto v k (modifyVehicle v (fun r => { r.enter .toPickup with currentJob := some tag, nextJob := none }) s)

/-- A job releases its vehicle: the record takes up its next job, or becomes IDLE (R74). -/
def releaseVehicle (v : Nat) (s : State) : State :=
  match findVehicle v s with
  | none => s
  | some r =>
    match r.nextJob with
    | some t => sendToPickup v t (modifyJob t (fun j => { j with vehicle := some (v, .current) }) s)
    | none => becomeIdle v (modifyVehicle v (fun r => { r with currentJob := none }) s)

/-- A record that has become a chain candidate under R8 wakes the Dispatcher (R100). -/
def wakeIfChain (v : Nat) (s : State) : State :=
  match findVehicle v s with
  | some r => if (chainDrop r s).isSome then wake s else s
  | none => s

/-! ### Jobs of a vehicle that becomes FAULTED or LOST (R42) -/

/-- A job retires FAILED with a JOB_FAILED notice, and its ask list entry ends (R42, R141). -/
def failJob (tag v : Nat) (reason : FailReason) (s : State) : State :=
  match findJob tag s with
  | some j => retire tag (some (.jobFailed tag j.senderTag v reason j.carrier)) (endAsk tag s)
  | none => s

/-- A bound job returns to WAITING: its reservation is released, a source-port wait ends, and the record no longer
names it (R42). -/
def unbindToWaiting (tag v : Nat) (reason : Option HoldReason) (s : State) : State :=
  jobToWaiting tag reason (unbindRecord v tag (endWait tag (releaseReservation tag s)))

/-- The job in role CURRENT: with an empty vehicle an ASSIGNED or LOADING job returns to WAITING; with the carrier
aboard the job is FAILED with CARRIER_STRANDED (R42). -/
def settleCurrent (tag v : Nat) (laden : Bool) (s : State) : State :=
  match findJob tag s with
  | some j =>
    if (j.state = .assigned ∨ j.state = .loading) ∧ !laden then unbindToWaiting tag v none s
    else failJob tag v .carrierStranded s
  | none => s

/-- The current and the next job of a record are settled, as the record stood (R42). -/
def settleJobs (r : Vehicle) (s : State) : State :=
  let s := match r.currentJob with
    | some t => settleCurrent t r.vehicle r.laden.isSome s
    | none => s
  match r.nextJob with
  | some t => unbindToWaiting t r.vehicle none s
  | none => s

/-- The incoming call queue loses the entry that pledges a vehicle (R134). -/
def dropPledgeEntry (v : Nat) (s : State) : State :=
  s.onCu fun c => { c with incoming := c.incoming.filter fun e => e.pledge ≠ some v }

/-- What fault and loss have in common (R68, R76): command slots cleared, jobs settled, the exit queue and the pledge
left, the lend part removed. -/
def takeOutOfService (r : Vehicle) (s : State) : State :=
  modifyVehicle r.vehicle (fun x => { x with currentJob := none, nextJob := none, pledge := none, lend := none })
    (dropPledgeEntry r.vehicle (leaveQueue r.vehicle (settleJobs r (clearAll r.vehicle s))))

/-- A record becomes FAULTED with a reason and a notice (R75, R76); one already FAULTED keeps its first reason and
raises none. -/
def faultWith (v : Nat) (reason : FaultReason) (notice : NoticeBody) (s : State) : State :=
  match findVehicle v s with
  | none => s
  | some r =>
    if r.state = .faulted then s
    else
      post notice
        (modifyVehicle v (fun x =>
          { x.enter .faulted with faultReason := some reason, prior := none, lostHold := none })
          (takeOutOfService r s))

/-- A fault whose notice is VEHICLE_FAULT (R75). -/
def fault (v : Nat) (reason : FaultReason) (s : State) : State := faultWith v reason (.vehicleFault v reason) s

/-- A fault by owner conflict, with its own notice (R85). -/
def faultOwner (v : Nat) (owner : Option Nat) (s : State) : State :=
  faultWith v .ownerConflict (.ownerConflict v owner) s

/-- A record becomes LOST (R68). -/
def loseVehicle (v : Nat) (s : State) : State :=
  match findVehicle v s with
  | none => s
  | some r =>
    let abandoned := (findContext v s).isSome
    post (.vehicleLost v .statusSilence)
      (modifyVehicle v (fun x =>
        { x.enter .lost with
          faultReason := none
          prior := some { state := r.state, abandoned := abandoned }
          lostHold := some (s.deadlineIn (s.cfg.lostHold * 1000)) })
        (takeOutOfService r s))

/-! ### Removal of an EXPECTED record (R28, R40) -/

/-- The job that a removed EXPECTED record named: a LENT record's job loses its vehicle and its reservation and
returns to WAITING, an INBOUND job is retired ABORTED (R28, R40, R54, R157). -/
def settleRemoved (ref : InboundRef) (tag : Nat) (s : State) : State :=
  match ref with
  | .lent _ => jobToWaiting tag none (releaseReservation tag s)
  | .laden _ => retire tag none s

/-! ### Redirection (R36, R147) -/

/-- The vehicle of a redirected job leaves the exit queue, becomes LADEN and is sent to the fallback port (R72, R73,
R80, R147). -/
def sendToFallback (v : Nat) (s : State) : State :=
  requestGoto v (getPort (fallbackPort s) s).position
    (modifyVehicle v (Vehicle.enter .laden) (leaveQueue v s))

/-- Step 1 of R36: the destination becomes the fallback port, and the first destination left is kept. -/
def Job.redirected (fb : Nat) (j : Job) : Job :=
  { j with
    originalDest := if j.dest = .here fb then j.originalDest else some (j.originalDest.getD j.dest)
    dest := .here fb
    askSeq := none
    state := .carrying
    holdReason := none }

/-- A job's carrier is sent to the fallback port instead of its destination (R36). -/
def redirect (tag : Nat) (reason : RedirectReason) (s : State) : State :=
  match findJob tag s with
  | none => s
  | some j =>
    let fb := fallbackPort s
    let v := (j.vehicle.map (·.1)).getD 0
    let s := modifyJob tag (Job.redirected fb) (releaseReservation tag s)
    let s := tryReserve tag fb s
    let s := sendToFallback v (endAsk tag s)
    post (.jobRedirected tag j.senderTag v reason j.dest) (wakeIfChain v s)

/-! ### Arrivals -/

/-- LOAD is sent at the source port, and the job and the record become LOADING (R57, R71). -/
def sendLoad (tag v : Nat) (s : State) : State :=
  requestCmd v .load
    (modifyJob tag (fun j => { j with state := .loading, holdReason := none })
      (modifyVehicle v (Vehicle.enter .loading) s))

/-- The vehicle of an ASSIGNED job stands at its source port (R29, R57, R71). -/
def arriveAtSource (v : Nat) (r : Vehicle) (s : State) : State :=
  match r.currentJob.bind fun t => findJob t s with
  | none => s
  | some j =>
    match j.source with
    | .arrival => s
    | .port p =>
      if (getPort p s).ready then sendLoad j.tag v s
      else if j.mode = .demand then
        releaseVehicle v
          (modifyJob j.tag (fun x => { x with state := .paused, vehicle := none }) (releaseReservation j.tag s))
      else
        modifyPort p (fun q =>
          { q with
            waitList := q.waitList ++ [{ tag := j.tag, deadline := s.deadlineIn (s.cfg.portWait * 1000) }] }) s

/-- A LADEN vehicle stands where its job is going: UNLOAD at a local port, the exit queue at X (R72, R148). -/
def arriveLaden (v : Nat) (r : Vehicle) (s : State) : State :=
  match r.currentJob.bind fun t => findJob t s with
  | none => s
  | some j =>
    match j.dest with
    | .here _ => requestCmd v .unload (modifyVehicle v (Vehicle.enter .unloading) s)
    | .remote _ _ =>
      let granted := ((findAsk j.tag s).map fun e => e.state == .granted).getD false
      let s := modifyAsk j.tag (fun e =>
        if e.state = .granted then e
        else { e with admitDeadline := some (e.admitDeadline.getD (s.deadlineIn (s.cfg.admitWait * 1000))) }) s
      joinQueue { vehicle := v, lent := false, mayLeave := granted, leaveSent := false }
        (modifyJob j.tag (fun x => { x with state := .holding }) (modifyVehicle v (Vehicle.enter .holding) s))

/-- A DEPARTING vehicle stands at X: it joins the exit queue as a lent vehicle that may leave (R79, R148). -/
def arriveDeparting (v : Nat) (s : State) : State :=
  joinQueue { vehicle := v, lent := true, mayLeave := true, leaveSent := false }
    (modifyVehicle v (Vehicle.enter .holding) s)

/-- The arrival of a GOTO that serves the record's present state (R70 to R72, R79, R86). -/
def arrive (v : Nat) (r : Vehicle) (s : State) : State :=
  match r.state with
  | .toPickup => arriveAtSource v r s
  | .laden => arriveLaden v r s
  | .departing => arriveDeparting v s
  | _ => s

/-! ### Exit (R80, R151) -/

/-- The HANDOFF of a laden vehicle, with the job's fields as they stand at the exit (R151). -/
def handoffLaden (j : Job) (v : Nat) (q : Byte) (port : Nat) : Payload :=
  .handoffLaden (BitVec.ofNat 16 v) q (BitVec.ofNat 16 j.tag) (BitVec.ofNat 24 j.carrier) (BitVec.ofNat 3 j.cls)
    (BitVec.ofNat 8 j.age) (BitVec.ofNat 8 j.mode.code) (BitVec.ofNat 8 port) (BitVec.ofNat 16 j.movesDone)

/-- A frame requested only at the level RUN (R151). -/
def requestInRun (target : Byte) (p : Payload) (s : State) : State :=
  if s.cpc.level = .run then requestFrame target p s else s

/-- The exit of a laden vehicle: its job retires HANDED, its ask list entry ends, and in RUN a HANDOFF goes to the
receiving station (R35, R151). -/
def exitLaden (v tag : Nat) (s : State) : State :=
  match findJob tag s with
  | none => s
  | some j =>
    match j.dest with
    | .here _ => s
    | .remote st port =>
      let q := ((findAsk tag s).bind (·.askSeq)).getD (j.askSeq.getD 0)
      requestInRun (stationByte st) (handoffLaden j v q port)
        (retire tag (some (.jobHanded tag j.senderTag v st)) (endAsk tag s))

/-- A vehicle's exit: its record is removed, its command slots are cleared, it leaves the exit queue, and the Handover
Unit acts by its kind (R80, R151). -/
def exitVehicle (v : Nat) (s : State) : State :=
  match findVehicle v s with
  | none => s
  | some r =>
    let s := leaveQueue v (clearAll v (removeVehicle v s))
    match r.lend with
    | some l => requestInRun (stationByte l.caller) (.handoffLent (BitVec.ofNat 16 v) l.call) s
    | none =>
      match r.currentJob with
      | some t => exitLaden v t s
      | none => s

/-! ### Pledges (R78, R79, R134) -/

/-- A pledge ends with its vehicle returned to IDLE; a record no longer PLEDGED is left alone (R78). -/
def releasePledge (v : Nat) (s : State) : State :=
  match findVehicle v s with
  | some r =>
    if r.state = .pledged then becomeIdle v (modifyVehicle v (fun x => { x with pledge := none }) s) else s
  | none => s

/-- An entry leaves the incoming call queue, and the pledge it may hold is released (R134). -/
def endIncoming (id : CallId) (s : State) : State :=
  match s.cu.incoming.find? fun e => e.id == id with
  | none => s
  | some e =>
    let s := s.onCu fun c => { c with incoming := c.incoming.filter fun x => x.id ≠ id }
    match e.pledge with
    | some v => releasePledge v s
    | none => s

/-- Once nothing is left to drain, a DEPARTING record without a target is sent to X (R79). -/
def driveToExit (v : Nat) (s : State) : State :=
  match findVehicle v s with
  | some r =>
    if r.state = .departing ∧ r.target = none then requestGoto v s.cfg.exitPoint s else s
  | none => s

/-- A PLEDGED record named by a TAKE departs: its queued command is cleared, and the command in flight drains (R79). -/
def depart (v : Nat) (caller : Nat) (id : CallId) (s : State) : State :=
  let s := modifyVehicle v (fun x => { x.enter .departing with pledge := none, lend := some { caller := caller, call := id } })
    (clearQueued v s)
  let s := s.onCu fun c => { c with incoming := c.incoming.filter fun x => x.id ≠ id }
  if commandInFlight v s then s else driveToExit v s

end Sys2Proof.Machine
end

