-- ==== Sys2Proof/Machine/Calls.lean ====
section
/-! DEFINITION. The Call Unit's own operations (chapter 7): opening a call (R118), the take step (R122, R123), closing
(R125), refusal and re-opening (R126), the incoming call queue and its order (R129, R130), and lending rounds (R132,
R133). -/

namespace Sys2Proof.Machine

/-! ### The caller's side -/

/-- The lowest slot that no own call holds (R126). -/
def lowestSlot (s : State) : Nat :=
  ((List.range Config.callPlaces).find? fun n => s.cu.ownCalls.all fun c => c.slot ≠ n).getD 0

/-- A call place is free: slots in use and taken-call entries number fewer than 4 (R117). -/
def placeFree (s : State) : Bool := s.cu.ownCalls.length + s.cu.takenCalls.length < Config.callPlaces

/-- The next call sequence: the counter's value, values held by a slot or a taken-call entry being skipped (R117). -/
def nextCallSeq (s : State) : Byte :=
  nextFree (fun q => s.cu.ownCalls.any (fun c => c.id.seq == q) || s.cu.takenCalls.any (fun c => c.id.seq == q))
    Config.callPlaces s.cu.callSeq

/-- A class of the hot group (R118). -/
def hot (cls : Nat) (s : State) : Bool := cls ≤ s.cfg.hotMax

/-- The call gate is open for a class: always for the hot group, and else while no own call in OPEN is for a hot-group
job (R118). -/
def gateOpen (cls : Nat) (s : State) : Bool :=
  hot cls s || !(s.cu.ownCalls.any fun c => c.state == .openCall && hot c.cls s)

/-- At least one peer is LIVE, has Leg ≠ 0 and showed spare (R118, test 4). -/
def someLender (s : State) : Bool :=
  (List.range Config.stationCount).any fun st =>
    (getPeer st s).state == .live && legTo st s != 0 && 0 < (getPeer st s).spare

/-- The CALL of an own call (R118, R124). -/
def requestCall (c : OwnCall) (s : State) : State :=
  requestFrame (stationByte s.cfg.callGroup) (.call c.id (BitVec.ofNat 3 c.cls) (BitVec.ofNat 16 c.urgency)) s

/-- Opens a call for a WAITING job (R26, R118). -/
def openCall (j : Job) (s : State) : State :=
  let q := nextCallSeq s
  let c : OwnCall :=
    { slot := lowestSlot s, id := { station := stationByte s.cfg.station, seq := q }, tag := j.tag, cls := j.cls,
      urgency := urgency j s, state := .openCall, windowDeadline := none, retryDeadline := none, best := none,
      retries := 0 }
  let s := s.onCu fun u => { u with ownCalls := u.ownCalls ++ [c], callSeq := q + 1 }
  let s := modifyJob j.tag (fun x => { x with state := .calling, holdReason := none, callLink := some c.slot }) s
  requestCall c (wake s)

/-- A hand-off from the Dispatcher, tested in the order of R118: opened, refused with NO_LENDER, or left as it is. -/
def handOff (j : Job) (s : State) : State :=
  if s.cpc.level ≠ .run then s
  else if !placeFree s then s
  else if !gateOpen j.cls s then s
  else if !someLender s then wake (modifyJob j.tag (fun x => { x with holdReason := some .noLender }) s)
  else openCall j s

/-- The roster creates an EXPECTED record when a record is free and none holds the vehicle number (R81). -/
def canExpect (v : Nat) (s : State) : Bool := 0 < freeRecords s && (findVehicle v s).isNone

/-- A new EXPECTED record (R81): phase AWAIT_HANDOFF with deadline DepartLimit. -/
def expectVehicle (v : Nat) (laden : Option Nat) (tag st : Nat) (ref : InboundRef) (s : State) : State :=
  s.onVr fun t =>
    { t with
      records := t.records ++
        [{ vehicle := v, state := .expected, position := none, laden := laden, ownerConfirmed := false, target := none,
           currentJob := some tag, nextJob := none, parkSlot := none, idleSince := none, lastStatus := none,
           faultReason := none,
           inbound := some
            { station := st, ref := ref, phase := .awaitHandoff,
              deadline := s.deadlineIn (s.cfg.departLimit * 1000) },
           pledge := none, lend := none, prior := none, parkDeadline := none, lostHold := none }] }

/-- The reservation half of the take step: granted, or not needed for a remote destination (R122). -/
def reserveForTake (tag : Nat) (s : State) : Option State :=
  match (findJob tag s).map Job.dest with
  | some (.here p) => reserve tag p s
  | some (.remote _ _) => some s
  | none => none

/-- The take step with an offer (R122); `none` where the record or the reservation is refused, and then nothing of
either is kept (R123). -/
def takeStep (c : OwnCall) (o : BestOffer) (s : State) : Option State :=
  if canExpect o.vehicle s then
    match reserveForTake c.tag (expectVehicle o.vehicle none c.tag o.station (.lent c.id) s) with
    | none => none
    | some s =>
      let s := modifyJob c.tag (fun x =>
        { x with state := .assigned, holdReason := none, vehicle := some (o.vehicle, .current), callLink := none }) s
      let s := s.onCu fun u =>
        { u with
          takenCalls := u.takenCalls ++
            [{ id := c.id, tag := c.tag, cls := c.cls, urgency := c.urgency, retries := c.retries, lender := o.station,
               vehicle := o.vehicle }] }
      some (requestFrame Config.allStations (.take c.id (stationByte o.station) (BitVec.ofNat 16 o.vehicle))
        (freeSlot c.slot s))
  else none

/-- The better of two offers: the lower total, and between equal totals the lower station number (R13). -/
def BestOffer.better (a b : BestOffer) : Bool := a.total < b.total || (a.total == b.total && a.station < b.station)

/-- The offer kept after comparison with the best offer held (R120). -/
def keepBest (held : Option BestOffer) (o : BestOffer) : BestOffer :=
  match held with
  | none => o
  | some b => if b.station = o.station ∨ o.better b then o else b

/-- A call closed before it is taken: its slot is freed and a CLOSE goes to all stations (R125). -/
def closeCall (c : OwnCall) (s : State) : State := closeAll c.id (freeSlot c.slot s)

/-- The entry is the one made when the vehicle was taken under the call (R117). DEDUCED (log 58): found by both. -/
def TakenCall.isFor (id : CallId) (v : Nat) (t : TakenCall) : Bool := t.id == id && t.vehicle == v

/-- The taken-call entry of a vehicle ends, which wakes the Dispatcher as a slot freed does (R126). -/
def endTaken (id : CallId) (v : Nat) (s : State) : State :=
  if s.cu.takenCalls.any (TakenCall.isFor id v) then
    wake (s.onCu fun u => { u with takenCalls := u.takenCalls.filter fun c => !c.isFor id v })
  else s

/-- A refused call returns to the own call table and its CALL is sent again, or is exhausted (R124, R126). -/
def reopenCall (t : TakenCall) (s : State) : State :=
  if t.retries < s.cfg.callRetries then
    let c : OwnCall :=
      { slot := lowestSlot s, id := t.id, tag := t.tag, cls := t.cls, urgency := t.urgency, state := .openCall,
        windowDeadline := none, retryDeadline := none, best := none, retries := t.retries + 1 }
    let s := s.onCu fun u => { u with ownCalls := u.ownCalls ++ [c] }
    let s := modifyJob t.tag (fun x =>
      { x with state := .calling, holdReason := none, vehicle := none, callLink := some c.slot }) s
    requestCall c (wake s)
  else closeAll t.id (exhaustJob t.tag t.id s)

/-- A call re-enters OPEN at its retry deadline (R124). -/
def retryCall (c : OwnCall) (s : State) : State :=
  requestCall c
    (wake (modifyOwnCall c.slot (fun x =>
      { x with state := .openCall, retries := x.retries + 1, retryDeadline := none, best := none }) s))

/-! ### The lender's side -/

/-- The rank of a caller among callers of equal urgency (R129). -/
def lendRank (caller : Nat) (s : State) : Nat :=
  match s.cfg.lendOrder with
  | .fixed => caller
  | .rotating => s.cu.rotation.idxOf caller

/-- Comparison of keys part by part, the first part that differs deciding. -/
def keyLe : List Nat → List Nat → Bool
  | a :: as, b :: bs => a < b || (a == b && keyLe as bs)
  | _, _ => true

/-- The order of the incoming call queue (R129): urgency, caller, heard at, sequence. -/
def incomingBefore (s : State) (a b : Incoming) : Bool :=
  keyLe [a.urgency, lendRank a.caller s, a.heardAt, a.id.seq.toNat]
    [b.urgency, lendRank b.caller s, b.heardAt, b.id.seq.toNat]

/-- The queue in its order, formed from the rotation list as it stands (R129). -/
def incomingOrder (s : State) : List Incoming := sortBy (incomingBefore s) s.cu.incoming

def findIncoming (id : CallId) (s : State) : Option Incoming := s.cu.incoming.find? fun e => e.id == id

def modifyIncoming (id : CallId) (f : Incoming → Incoming) (s : State) : State :=
  s.onCu fun u => { u with incoming := u.incoming.map fun e => if e.id = id then f e else e }

/-- The OFFER of a pledged vehicle, with ETA_offer formed now (R12, R133). -/
def sendOffer (e : Incoming) (v : Nat) (s : State) : State :=
  let p := ((findVehicle v s).map Vehicle.pos).getD 0
  requestFrame (stationByte e.caller)
    (.offer e.id (BitVec.ofNat 16 v) (BitVec.ofNat 16 (offerEstimate p e.caller s))) s

/-- The idle vehicle with the least distance to X, the lower vehicle number between equal distances (R133). -/
def nearestToExit (s : State) : Option Nat :=
  (least ((s.vr.records.filter Vehicle.isIdle).map fun r => (s.dist r.pos s.cfg.exitPoint, r.vehicle))).map (·.2)

/-- Under ROTATING a station served moves to the end of the rotation list (R133). -/
def rotate (caller : Nat) (s : State) : State :=
  match s.cfg.lendOrder with
  | .fixed => s
  | .rotating => s.onCu fun u => { u with rotation := u.rotation.filter (· ≠ caller) ++ [caller] }

/-- Pledges a vehicle to an entry and sends the OFFER (R78, R133). -/
def pledgeTo (e : Incoming) (v : Nat) (s : State) : State :=
  let s := modifyVehicle v (fun r =>
    { r.enter .pledged with
      pledge := some { caller := e.caller, call := e.id, holdDeadline := s.deadlineIn s.cfg.pledgeHold } }) s
  rotate e.caller (sendOffer e v (modifyIncoming e.id (fun x => { x with pledge := some v }) s))

/-- Serves entries in the order given while spare is above 0 (R133). -/
def serveRound : List Incoming → State → State
  | [], s => s
  | e :: es, s =>
    if spare s = 0 then s
    else
      match nearestToExit s with
      | some v => serveRound es (pledgeTo e v s)
      | none => s

/-- The test for opening a lending round (R132). -/
def roundTest (s : State) : State :=
  if s.cpc.level == .run && s.cu.reclaimDeadline.isNone && 0 < spare s && s.cu.incoming.any (fun e => e.pledge.isNone)
  then s.onCu fun u => { u with reclaimDeadline := some (s.deadlineIn s.cfg.reclaimWindow) }
  else s

/-- A CALL heard that names no entry joins the queue, displaces its last entry, or is dropped (R130). -/
def queueCall (e : Incoming) (s : State) : State :=
  if s.cu.incoming.length < Config.incomingSlots then s.onCu fun u => { u with incoming := u.incoming ++ [e] }
  else
    match (incomingOrder s).getLast? with
    | some w =>
      if e.urgency < w.urgency then (endIncoming w.id s).onCu fun u => { u with incoming := u.incoming ++ [e] } else s
    | none => s

/-! ### The end of a step -/

/-- The end of every step: LEAVE goes to a head of the exit queue that may leave (R149), the test for a lending round
is made (R132), and the notices raised join their queue (R180). -/
def finish (s : State) : State := joinNotices (roundTest (leaveHead s))

end Sys2Proof.Machine
end

