-- ==== Sys2Proof/Machine/Moves.lean ====
section
/-! DEFINITION. How commands end and what the roster, the Job Table and the Port Table make of it: the completion of a
LOAD (R31, R59, R71) and of an UNLOAD (R32 to R34, R37, R59, R60, R73), the table of R96, superseded commands (R70), and
the matching of a DONE (R94, R95) and of an expiry (R97). -/

namespace Sys2Proof.Machine

/-- How a command ended: with a DONE, or with its time limit (R96). -/
inductive Ending where
  | result (r : DoneResult) (carrier : Nat)
  | timeLimit
  deriving DecidableEq, Repr

/-- The fault reason of a failing end (R75); OK is no failing end and is given none of its own. -/
def Ending.reason : Ending → FaultReason
  | .timeLimit => .commandTimeout
  | .result .emptyPort _ => .emptyPort
  | .result .portFull _ => .portFull
  | .result .hoistFault _ => .hoistFault
  | .result .blocked _ => .blocked
  | .result .halted _ => .halted
  | .result .refused _ => .refused
  | .result .ok _ => .refused

/-! ### LOAD -/

/-- The carrier aboard is not the one the job names: on the first move, with a carrier field that is neither 0 nor the
carrier reported (R31, R113). -/
def Job.mismatch (j : Job) (carrier : Nat) : Bool := j.movesDone == 0 && j.carrier != 0 && j.carrier != carrier

/-- A laden vehicle is sent on: to the local destination, or to X with the first ASK (R31, R35, R141). -/
def carryOn (j : Job) (v : Nat) (s : State) : State :=
  let s := requestGoto v (dropPosition j s) s
  match j.dest with
  | .here _ => wakeIfChain v s
  | .remote st p => createAsk j.tag v st p s

/-- LOAD done OK: the port's count falls, the record becomes LADEN and the job CARRYING with the carrier reported; a
mismatch redirects it (R31, R59, R71). -/
def loadOk (v : Nat) (j : Job) (carrier : Nat) (s : State) : State :=
  let s := match j.source with
    | .port p => setOccupied p ((getPort p s).occupied - 1) s
    | .arrival => s
  let s := modifyVehicle v (fun r => { r.enter .laden with laden := some carrier }) s
  let s := modifyJob j.tag (fun x => { x with state := .carrying, carrier := carrier }) s
  if j.mismatch carrier then redirect j.tag .mismatch s else carryOn j v s

/-- LOAD done EMPTY_PORT: occupied is set to 0, the job returns to WAITING with its reservation and its vehicle
released, and PORT_MISMATCH is raised (R31, R59). -/
def loadEmpty (v : Nat) (j : Job) (s : State) : State :=
  match j.source with
  | .arrival => s
  | .port p =>
    let s := setOccupied p 0 s
    let s := jobToWaiting j.tag none (releaseReservation j.tag s)
    post (.portMismatch j.tag j.senderTag p) (releaseVehicle v s)

/-! ### UNLOAD -/

/-- The fields a completed move changes (R32): count, moves done, and the destination restored after a redirection. -/
def Job.moveDone (j : Job) : Job :=
  { j with
    count := j.count - 1
    movesDone := min (j.movesDone + 1) 65535
    dest := j.originalDest.getD j.dest
    originalDest := none }

/-- A job whose last move is done starts again (R34). -/
def Job.rearmed (j : Job) : Job :=
  { (j.toWaiting none) with count := j.reload, age := 0, callBarred := false }

/-- A RUN or DEMAND job goes on with its vehicle, where its next reservation is granted (R33, R73). -/
def continueJob (v : Nat) (j : Job) (s : State) : State :=
  match j.dest with
  | .here p =>
    match reserve j.tag p s with
    | some s =>
      sendToPickup v j.tag
        (modifyJob j.tag (fun x => { x with state := .assigned, holdReason := none, vehicle := some (v, .current) }) s)
    | none => releaseVehicle v (jobToWaiting j.tag (some .destFull) s)
  | .remote _ _ => releaseVehicle v (jobToWaiting j.tag none s)

/-- The table of R32, for the job as it stands after the move. -/
def afterMove (v : Nat) (j : Job) (s : State) : State :=
  if j.count = 0 then
    if j.rearm then releaseVehicle v (wake (modifyJob j.tag (fun _ => j.rearmed) s))
    else releaseVehicle v (retire j.tag (some (.jobDone j.tag j.senderTag v j.movesDone)) s)
  else if j.mode = .single then releaseVehicle v (jobToWaiting j.tag none s)
  else continueJob v j s

/-- UNLOAD done OK: the port's counts are corrected, the laden field becomes no, and the move is finished (R32, R59,
R73). The reservation is consumed. -/
def unloadOk (v : Nat) (j : Job) (s : State) : State :=
  let s := match j.dest with
    | .here p => setOccupied p (min ((getPort p s).occupied + 1) (getPort p s).capacity) s
    | .remote _ _ => s
  let s := releaseReservation j.tag s
  let s := modifyVehicle v (fun r => { r with laden := none }) s
  let s := modifyJob j.tag Job.moveDone s
  match findJob j.tag s with
  | some j' => afterMove v j' s
  | none => s

/-- UNLOAD done PORT_FULL: occupied is set to capacity and the reservation released; the job is redirected, or failed
with NO_DROP at the fallback port, the vehicle keeping its carrier (R37, R60, R73). -/
def unloadFull (v : Nat) (j : Job) (s : State) : State :=
  match j.dest with
  | .remote _ _ => s
  | .here p =>
    let s := releaseReservation j.tag (setOccupied p (getPort p s).capacity s)
    if p = fallbackPort s then fault v .noDrop (failJob j.tag v .noDrop s)
    else redirect j.tag .portFull (modifyVehicle v (Vehicle.enter .laden) s)

/-! ### The end of a command at the roster (R70 to R75, R96) -/

/-- The end of a GOTO. One that serves the present state and ends OK is the vehicle's arrival; one superseded moves the
position alone; HALTED after a HALT of this station, or when superseded, has no effect (R70). -/
def gotoEnded (v : Nat) (r : Vehicle) (t : Nat) (latest haltSent : Bool) (e : Ending) (s : State) : State :=
  let serving := latest && r.target == some t
  match e with
  | .result .ok _ =>
    let s := modifyVehicle v (fun x => { x with position := some t }) s
    if serving then arrive v r s else s
  | .result .halted _ => if haltSent || !serving then s else fault v .halted s
  | e => fault v e.reason s

/-- The end of a LOAD: serving a LOADING record (R71), or superseded (R70). -/
def loadEnded (v : Nat) (r : Vehicle) (e : Ending) (s : State) : State :=
  match r.state, r.currentJob.bind fun t => findJob t s, e with
  | .loading, some j, .result .ok c => loadOk v j c s
  | .loading, some j, .result .emptyPort _ => loadEmpty v j s
  | _, _, .result .ok _ => s
  | _, _, e => fault v e.reason s

/-- The end of an UNLOAD: serving an UNLOADING record (R73), or superseded (R70). -/
def unloadEnded (v : Nat) (r : Vehicle) (e : Ending) (s : State) : State :=
  match r.state, r.currentJob.bind fun t => findJob t s, e with
  | .unloading, some j, .result .ok _ => unloadOk v j s
  | .unloading, some j, .result .portFull _ => unloadFull v j s
  | _, _, .result .ok _ => s
  | _, _, e => fault v e.reason s

/-- The end of a LEAVE (R80, R150). -/
def leaveEnded (v : Nat) (r : Vehicle) (haltSent : Bool) (e : Ending) (s : State) : State :=
  match e with
  | .result .ok _ => if r.state = .holding then exitVehicle v s else s
  | .result .halted _ => if haltSent || r.state != .holding then s else fault v .halted s
  | e => fault v e.reason s

/-- What the roster makes of a command that ended (R96), before a departing vehicle drives on. -/
def rosterActs (i : InFlight) (v : Nat) (r : Vehicle) (e : Ending) (s : State) : State :=
  match i.cmd with
  | .goto t => gotoEnded v r t i.latest i.haltSent e s
  | .load => loadEnded v r e s
  | .unload => unloadEnded v r e s
  | .leave _ => leaveEnded v r i.haltSent e s
  | .adopt =>
    match e with
    | .result .ok _ => modifyVehicle v (fun x => { x with ownerConfirmed := true }) s
    | e => fault v e.reason s
  | .halt | .pass =>
    match e with
    | .result .ok _ => s
    | e => fault v e.reason s

/-- The roster is told of a command that ended. A vehicle without an owned record has nothing for it to act on (R88,
R92); a departing one drives to X once its drain has ended (R79). -/
def tellRoster (i : InFlight) (v : Nat) (e : Ending) (s : State) : State :=
  match findVehicle v s with
  | none => s
  | some r => if r.state.owned then driveToExit v (rosterActs i v r e s) else s

/-- The command in flight ends: its slot is emptied, the queued command goes in flight, and the roster is told (R95,
R97). -/
def endInFlight (i : InFlight) (v : Nat) (e : Ending) (s : State) : State := tellRoster i v e (advanceContext v s)

/-- A queued HALT as a command that ends. -/
def haltInFlight (q : BitVec 4) (d : Nat) : InFlight :=
  { cmd := .halt, seq := q, deadline := d, haltSent := false, latest := true }

/-- A DONE for a queued HALT: the DONE of the command in flight has been lost, so that command ends first, HALTED
where it is marked "halt sent" and by its time limit where not; then the HALT ends with its own result (R94). -/
def endBehindHalt (i : InFlight) (q : BitVec 4) (d v : Nat) (r : DoneResult) (s : State) : State :=
  let s := endInFlight i v (if i.haltSent then .result .halted 0 else .timeLimit) s
  let h := haltInFlight q d
  if (contextOf v s).inFlight.any fun x => x.cmd == .halt && x.seq == q then endInFlight h v (.result r 0) s
  else tellRoster h v (.result r 0) s

/-- A DONE report (R95): matched by sequence number against the command in flight and a queued HALT, and tested
against the kind it ends. DESIGN CHOICE (log 52): a number that both bear ends the command in flight alone. -/
def doneReport (v : Nat) (seq : BitVec 4) (result : Byte) (carrier : Nat) (s : State) : State :=
  match findContext v s with
  | none => countUnmatched s
  | some x =>
    match x.inFlight with
    | none => countUnmatched s
    | some i =>
      if i.seq = seq then
        match DoneResult.read result with
        | some r => if i.cmd.accepts r carrier then endInFlight i v (.result r carrier) s else countFormatError v s
        | none => countFormatError v s
      else
        match x.queued with
        | some (.haltSent q d) =>
          if q = seq then
            match DoneResult.read result with
            | some r => if FeederCmd.halt.accepts r carrier then endBehindHalt i q d v r s else countFormatError v s
            | none => countFormatError v s
          else countUnmatched s
        | _ => countUnmatched s

/-- The limit of a queued HALT expires before the command in flight has ended: the HALT ends by its limit, and the
fault abandons the command in flight (R97). -/
def endQueuedHalt (x : Context) (q : BitVec 4) (d : Nat) (s : State) : State :=
  tellRoster (haltInFlight q d) x.vehicle .timeLimit (putContext { x with queued := none } s)

/-- The expiry of a vehicle's time limit, of the command in flight or of a queued HALT (R97); no limit reached has no
effect. -/
def limitExpiry (v : Nat) (s : State) : State :=
  match findContext v s with
  | none => s
  | some x =>
    match x.inFlight with
    | none => s
    | some i =>
      if i.deadline ≤ s.now then endInFlight i v .timeLimit s
      else
        match x.queued with
        | some (.haltSent q d) => if d ≤ s.now then endQueuedHalt x q d s else s
        | _ => s

end Sys2Proof.Machine
end

