-- ==== Sys2Proof/Machine/Dispatcher.lean ====
section
/-! DEFINITION. The Dispatcher's decision (chapter 6): what is examined (R102), the two tests (R103, R104) and the hold
reasons they leave (R105), the assignment pass in urgency order (R106, R107), the binding requests (R65, R108 to R110)
and the hand-offs to the Call Unit (R111). -/

namespace Sys2Proof.Machine

/-! ### Eligibility -/

/-- The job's own call is OPEN (R102). -/
def callOpen (tag : Nat) (s : State) : Bool := s.cu.ownCalls.any fun c => c.tag == tag && c.state == .openCall

/-- A job a decision examines, and to which a binding request may be carried out: WAITING, or CALLING with its call
OPEN, and its source a port (R102, R108). -/
def servable (j : Job) (s : State) : Bool :=
  j.source != .arrival && (j.state == .waiting || (j.state == .calling && callOpen j.tag s))

/-- The order of the pass: U ascending, and between equal U the order of admission, which a sort that keeps the order of
equals leaves as it is (R15, R106). -/
def examinedJobs (s : State) : List Job :=
  sortBy (fun a b => urgency a s ≤ urgency b s) (s.jt.jobs.filter fun j => servable j s)

/-- The source test (R103). -/
def sourceFit (j : Job) (s : State) : Bool :=
  match j.source with
  | .port p => (getPort p s).ready || (j.mode == .run && j.holdReason != some .sourceNotReady)
  | .arrival => false

/-- The destination test, with the places promised earlier in the pass: the hold reason of a failure (R104, R106). -/
def destinationFailure (j : Job) (promised : List Nat) (s : State) : Option HoldReason :=
  match j.dest with
  | .here p => if (getPort p s).hasRoom (promised.count p) then none else some .destFull
  | .remote st _ =>
    if s.cpc.level = .run ∧ (getPeer st s).state = .live then none else some .peerDown

/-- The two tests in their order (R102). -/
def testJob (j : Job) (promised : List Nat) (s : State) : Option HoldReason :=
  if sourceFit j s then destinationFailure j promised s else some .sourceNotReady

/-- The hold reason a WAITING job has after its tests (R105). -/
def reasonAfter (failure held : Option HoldReason) : Option HoldReason :=
  match failure with
  | some r => some r
  | none => if held = some .noLender then held else none

/-! ### The assignment pass -/

/-- A vehicle chosen for a job, with the role of the binding (R106, R108). -/
structure Choice where
  tag : Nat
  vehicle : Nat
  role : Role
  deriving DecidableEq, Repr

/-- What a pass has settled so far: the choices made and the jobs that want a call, each in the order of the pass, and
the local ports at which a place is promised. -/
structure Pass where
  choices : List Choice
  wanting : List Nat
  promised : List Nat
  deriving DecidableEq, Repr

/-- A job that can call for a foreign vehicle (R107). -/
def canCall (j : Job) (s : State) : Bool :=
  j.state == .calling || (s.cpc.level == .run && !j.callBarred && j.holdReason != some .noLender)

/-- The candidates not chosen earlier, each with its estimate for the job's pickup position (R8 to R10, R106). -/
def candidatesFor (j : Job) (p : Pass) (s : State) : List (Nat × Nat) :=
  s.vr.records.filterMap fun r =>
    if p.choices.any fun c => c.vehicle == r.vehicle then none
    else (estimate r (pickupPosition j s) s).map fun e => (e, r.vehicle)

/-- Within reach (R107). -/
def withinReach (j : Job) (e : Nat) (s : State) : Bool := !canCall j s || e ≤ s.cfg.reachLimit

/-- CURRENT for an idle candidate, NEXT for a chain candidate (R108). -/
def roleOf (v : Nat) (s : State) : Role :=
  if ((findVehicle v s).map Vehicle.isIdle).getD false then .current else .next

/-- The choice for one eligible job (R106). -/
def chooseFor (j : Job) (p : Pass) (s : State) : Pass :=
  match least (candidatesFor j p s) with
  | some (e, v) =>
    if withinReach j e s then
      { p with
        choices := p.choices ++ [{ tag := j.tag, vehicle := v, role := roleOf v s }]
        promised := match j.dest with
          | .here q => q :: p.promised
          | .remote _ _ => p.promised }
    else { p with wanting := p.wanting ++ [j.tag] }
  | none => { p with wanting := p.wanting ++ [j.tag] }

/-- One job of the pass: its tests, the hold reason of a WAITING job, and its choice where it is eligible (R102 to
R107). -/
def passJob (acc : Pass × State) (j : Job) : Pass × State :=
  let failure := testJob j acc.1.promised acc.2
  let s :=
    if j.state = .waiting then
      modifyJob j.tag (fun x => { x with holdReason := reasonAfter failure j.holdReason }) acc.2
    else acc.2
  match failure with
  | some _ => (acc.1, s)
  | none => (chooseFor { j with holdReason := reasonAfter none j.holdReason } acc.1 s, s)

def assignmentPass (s : State) : Pass × State :=
  (examinedJobs s).foldl passJob ({ choices := [], wanting := [], promised := [] }, s)

/-! ### Binding requests (R65, R108) -/

/-- The vehicle as it stands when the request is taken can be bound in the role named (R65). -/
def bindable (r : Vehicle) (role : Role) (s : State) : Bool :=
  match role with
  | .current => r.isIdle
  | .next => (chainDrop r s).isSome

/-- The reservation half of a binding: granted, or not needed for a remote destination (R25, R108). -/
def reserveForBinding (j : Job) (s : State) : Option State :=
  match j.dest with
  | .here p => reserve j.tag p s
  | .remote _ _ => some s

/-- The vehicle's half of a binding: a PARKING vehicle is halted ahead of its GOTO (R109), a chain candidate takes the
job as its next (R110). -/
def bindVehicle (r : Vehicle) (role : Role) (tag : Nat) (s : State) : State :=
  match role with
  | .current => sendToPickup r.vehicle tag (if r.state = .parking then requestHalt r.vehicle s else s)
  | .next => modifyVehicle r.vehicle (fun x => { x with nextJob := some tag }) s

/-- The call of a CALLING job that is bound locally is closed (R27, R125). -/
def closeCallOf (tag : Nat) (s : State) : State :=
  match s.cu.ownCalls.find? fun c => c.tag == tag with
  | some c => closeCall c s
  | none => s

/-- A binding request is settled (R108). -/
def bindRequest (s : State) (c : Choice) : State :=
  match findJob c.tag s, findVehicle c.vehicle s with
  | some j, some r =>
    if servable j s && bindable r c.role s then
      match reserveForBinding j s with
      | some s =>
        closeCallOf j.tag
          (bindVehicle r c.role j.tag
            (modifyJob j.tag (fun x =>
              { x with state := .assigned, holdReason := none, vehicle := some (r.vehicle, c.role), callLink := none })
              s))
      | none =>
        wake (if j.state = .waiting then modifyJob j.tag (fun x => { x with holdReason := some .destFull }) s else s)
    else wake s
  | _, _ => wake s

/-- A job marked as wanting a call is handed to the Call Unit where it meets the conditions of R111. -/
def handOffRequest (s : State) (tag : Nat) : State :=
  match findJob tag s with
  | some j =>
    if j.state == .waiting && !j.callBarred && j.holdReason != some .noLender && s.cpc.level == .run then handOff j s
    else s
  | none => s

/-- A decision, taken as one step: the mark is cleared, the pass is made, and the requests and the hand-offs go out in
its order (R101, R106, R108, R111). -/
def takeDecision (s : State) : State :=
  let (p, s) := assignmentPass (s.setPending false)
  p.wanting.foldl handOffRequest (p.choices.foldl bindRequest s)

/-- A decision is taken while the mark is set and the level is RUN or ISOLATED (R101). -/
def dispatchDecision (s : State) : State :=
  if s.decisionPending && s.cpc.level != .config then takeDecision s else s

end Sys2Proof.Machine
end

