-- ==== Sys2Proof/Machine/Levels.lean ====
section
/-! DEFINITION. The level changes (chapter 10.4), each one step across the blocks: entry to ISOLATED (R185), START
(R184), RESUME (R186), STOP (R187); and the values after reset (R188). -/

namespace Sys2Proof.Machine

/-- The level changes, with its notice (chapter 10.4). -/
def changeLevel (new : Level) (cause : Cause) (s : State) : State :=
  post (.levelChange s.cpc.level new cause) (s.onCpc fun c => { c with level := new })

/-! ### ISOLATED (R185) -/

/-- The job of a dropped call returns to WAITING with no hold reason and call barred no (R26). -/
def dropCallOf (s : State) (tag : Nat) : State :=
  jobToWaiting tag none (modifyJob tag (fun j => { j with callBarred := false }) s)

/-- The own calls are dropped, with their jobs (R138). -/
def dropOwnCalls (s : State) : State :=
  ((s.cu.ownCalls.map (·.tag)).foldl dropCallOf s).onCu fun u => { u with ownCalls := [] }

/-- Every pledge is released, the queue is emptied, and an open round is closed unserved (R138). -/
def dropIncoming (s : State) : State :=
  ((s.cu.incoming.filterMap (·.pledge)).foldl (fun s v => releasePledge v s) s).onCu fun u =>
    { u with incoming := [], reclaimDeadline := none }

/-- The ask list at ISOLATED: ASKING and DEFERRED entries enter HELD without a retry deadline (R159). -/
def AskEntry.isolated (e : AskEntry) : AskEntry :=
  if e.state = .asking ∨ e.state = .deferred then { e with state := .held, retryDeadline := none } else e

def holdAsks (s : State) : State := s.onHu fun h => { h with askList := h.askList.map AskEntry.isolated }

/-- A remote job that takes PEER_DOWN at ISOLATED (R47). -/
def Job.heldByIsolation (s : State) (j : Job) : Bool :=
  match j.dest with
  | .here _ => false
  | .remote _ _ =>
    (j.state == .waiting || j.state == .carrying || j.state == .holding) &&
      !((findAsk j.tag s).any fun e => e.state == .granted)

def holdRemoteJobs (s : State) : State :=
  s.onJt fun t =>
    { t with jobs := t.jobs.map fun j => if j.heldByIsolation s then { j with holdReason := some .peerDown } else j }

/-- The transmit queue is emptied without TX_DROP, and a frame on the line will not return to it (R176). The Call Unit
is told of the CALLs in it; every own call has been dropped by then, so it ignores what it is told (R138, R139). -/
def emptyTxQueue (s : State) : State :=
  s.onPbc fun b =>
    { b with txQueue := [], onLine := b.onLine.map fun o => { o with noReturn := true } }

/-- The level becomes ISOLATED, from RUN, with a cause (R185). -/
def isolateWith (cause : Cause) (s : State) : State :=
  let s := emptyTxQueue (holdRemoteJobs (holdAsks (dropIncoming (dropOwnCalls s))))
  wake (changeLevel .isolated cause (s.onCpc fun c => { c with isolationCause := some cause }))

/-! ### START (R184) -/

def Port.notReady (p : Port) : Port := { p with reserved := 0, ready := false, waitList := [] }

/-- CONFIG becomes RUN (R184). The tables are empty in CONFIG, as reset or STOP left them. -/
def startLevel (s : State) : State :=
  let s := s.onJt fun t => { t with agingDeadline := some (s.deadlineIn (s.cfg.agingInterval * 1000)) }
  let s := s.onPt fun t => t.map Port.notReady
  let s := s.onFlc fun f => { f with contexts := [] }
  let s := startQuietTimer (s.onCu fun u => { u with rotation := List.range Config.stationCount })
  let s := s.onPbc fun b =>
    { b with
      beaconDeadline := some (s.deadlineIn s.cfg.beaconPeriod)
      txFailures := 0
      duplicate := false }
  requestBeacon (changeLevel .run .host s)

/-! ### RESUME (R186) -/

/-- ISOLATED becomes RUN (R186). -/
def resumeLevel (s : State) : State :=
  let s := changeLevel .run .host (s.onCpc fun c => { c with isolationCause := none })
  let s := s.onPbc fun b => { b with txFailures := 0, duplicate := false }
  retestAllHeld (wake (requestBeacon s))

/-! ### STOP (R187) -/

/-- HALT is queued to every vehicle whose record is in an owned state (R88, R98). DESIGN CHOICE (log 51): the HALTs go
out in the order of the records. -/
def haltOwned (s : State) : State :=
  ((s.vr.records.filter fun r => r.state.owned).map (·.vehicle)).foldl (fun s v => requestHalt v s) s

/-- The tables at STOP, block by block as R187 lists them. -/
def stopTables (s : State) : State :=
  let s := s.onPbc fun b =>
    { b with
      errA := 0, errB := 0, degraded := false, txFailures := 0, duplicate := false, beaconDeadline := none
      peers := Vector.replicate 32 Peer.reset }
  let s := restartSilence (emptyTxQueue s)
  let s := s.onVr fun _ => { records := [], passList := [] }
  let s := s.onJt fun _ => { jobs := [], agingDeadline := none }
  let s := (s.onPt fun t => t.map Port.notReady).setPending false
  let s := s.onCu fun u =>
    { u with
      ownCalls := [], takenCalls := [], incoming := [], reclaimDeadline := none
      rotation := List.range Config.stationCount, quiet := false, quietDeadline := none }
  s.onHu fun h => { h with askList := [], exitQueue := [] }

/-- RUN or ISOLATED becomes CONFIG, with STOPPED and then LEVEL_CHANGE (R48, R187). -/
def stopLevel (s : State) : State :=
  let discarded := s.jt.jobs.length
  let s := stopTables (haltOwned s)
  changeLevel .config .host (post (.stopped discarded) (s.onCpc fun c => { c with isolationCause := none }))

/-! ### Reset (R188) -/

/-- RESETN is asserted: the device holds in reset. The frame on the line is cut short and the transaction in progress is
abandoned (R188). -/
def holdReset (s : State) : State :=
  (({ s with held := true }).onPbc fun b => { b with onLine := none }).onCpc fun c => { c with transaction := none }

/-- RESETN is released: every item takes its value after reset (R188). The commands that wait stay in their queue, which
is the model's own. -/
def releaseReset (s : State) : State := { State.reset with pending := s.pending }

end Sys2Proof.Machine
end

