-- ==== Sys2Proof/Machine/Frames.lean ====
section
/-! DEFINITION. What each accepted frame does at the block it is delivered to (R169): CALL, OFFER, TAKE, CLOSE and
REFUSE at the Call Unit (chapter 7), ASK, GRANT, DEFER, DENY and HANDOFF at the Handover Unit (chapter 8). -/

namespace Sys2Proof.Machine

/-! ### The Call Unit -/

/-- A repeated CALL refreshes its entry; a pledge it holds is offered again with a full PledgeHold (R130). -/
def repeatCall (e : Incoming) (s : State) : State :=
  let s := modifyIncoming e.id (fun x => { x with heardAt := s.now }) s
  match e.pledge with
  | some v =>
    sendOffer e v
      (modifyVehicle v (fun r =>
        { r with pledge := r.pledge.map fun p => { p with holdDeadline := s.deadlineIn s.cfg.pledgeHold } }) s)
  | none => s

/-- CALL (R130): taken in RUN alone. A U above 4095 is queued as 4095 (R191). -/
def callHeard (caller : Nat) (id : CallId) (urgency : Nat) (s : State) : State :=
  if s.cpc.level ≠ .run then s
  else if legTo caller s = 0 then s
  else
    match findIncoming id s with
    | some e => repeatCall e s
    | none => queueCall { caller := caller, id := id, urgency := min urgency 4095, heardAt := s.now, pledge := none } s

/-- The offer is kept as the best one where R120 says so. -/
def keepOffer (c : OwnCall) (o : BestOffer) (s : State) : State :=
  modifyOwnCall c.slot (fun x => { x with best := some (keepBest x.best o) }) s

/-- An OFFER for an own call in OPEN (R120, R121). -/
def offerForOpen (c : OwnCall) (st v eta : Nat) (s : State) : State :=
  if (findVehicle v s).isSome then requestFrame (stationByte st) (.close c.id) s
  else
    let k := ((findJob c.tag s).map fun j => pickupPosition j s).getD 0
    let o : BestOffer := { station := st, vehicle := v, total := callerTotal eta k s }
    if o.total ≤ s.cfg.quickAccept then (takeStep c o s).getD (keepOffer c o s) else keepOffer c o s

/-- OFFER (R120). In CONFIG every call-protocol frame is discarded (R139). -/
def offerHeard (st : Nat) (id : CallId) (v eta : Nat) (s : State) : State :=
  if s.cpc.level = .config ∨ !vehicleInRange v ∨ id.station.toNat ≠ s.cfg.station then s
  else
    match findOwnCall id s with
    | some c =>
      match c.state with
      | .openCall => offerForOpen c st v eta s
      | .retryWait => requestFrame (stationByte st) (.close id) s
    | none =>
      if s.cu.takenCalls.any fun t => t.id == id then s else requestFrame (stationByte st) (.close id) s

/-- The vehicle is on its way out, or waits to leave, under the call (R136). -/
def lentFor (v : Nat) (id : CallId) (s : State) : Bool :=
  match findVehicle v s with
  | some r => (r.state == .departing || r.state == .holding) && r.lend.any fun l => l.call == id
  | none => false

/-- The record is PLEDGED under the call (R136). -/
def pledgedFor (v : Nat) (id : CallId) (s : State) : Bool :=
  match findVehicle v s with
  | some r => r.state == .pledged && r.pledge.any fun p => p.call == id
  | none => false

/-- TAKE naming this station (R136). -/
def takeForUs (id : CallId) (v : Nat) (s : State) : State :=
  match findIncoming id s with
  | some e =>
    if e.pledge = some v ∧ pledgedFor v id s then depart v e.caller id s
    else if lentFor v id s then endIncoming id s
    else requestFrame id.station (.refuse id (BitVec.ofNat 16 v)) (endIncoming id s)
  | none => if lentFor v id s then s else requestFrame id.station (.refuse id (BitVec.ofNat 16 v)) s

/-- TAKE (R136): taken in RUN alone. -/
def takeHeard (id : CallId) (st v : Nat) (s : State) : State :=
  if s.cpc.level ≠ .run then s
  else if st = s.cfg.station then takeForUs id v s
  else endIncoming id s

/-- CLOSE (R137): taken in RUN alone. -/
def closeHeard (id : CallId) (s : State) : State := if s.cpc.level = .run then endIncoming id s else s

/-- The EXPECTED record of a vehicle whose inbound part names a station and a reference. -/
def expectedFor (st v : Nat) (ref : InboundRef) (s : State) : Option (Vehicle × Inbound) :=
  match findVehicle v s with
  | some r =>
    match r.inbound with
    | some i => if r.state = .expected ∧ i.station = st ∧ i.ref = ref then some (r, i) else none
    | none => none
  | none => none

/-- The job of a call that a REFUSE met in ISOLATED: as for a call dropped at ISOLATE (R26, R126). -/
def dropTaken (t : TakenCall) (s : State) : State :=
  jobToWaiting t.tag none (modifyJob t.tag (fun j => { j with callBarred := false }) s)

/-- REFUSE (R126): the record is removed, the reservation released (R28, R54), and the call re-opened, exhausted or
dropped. Where no taken-call entry is left, a job that the record still names, because the entry ended at the HANDOFF,
is settled as at the record's deadline: DESIGN CHOICE (log 49). -/
def refuseHeard (st : Nat) (id : CallId) (v : Nat) (s : State) : State :=
  match expectedFor st v (.lent id) s with
  | none => s
  | some (r, i) =>
    let s := removeVehicle v s
    match s.cu.takenCalls.find? (TakenCall.isFor id v) with
    | none =>
      match r.currentJob with
      | some t => settleRemoved i.ref t s
      | none => s
    | some t =>
      let s := endTaken id v (releaseReservation t.tag s)
      if s.cpc.level = .run then reopenCall t s else dropTaken t s

/-! ### The Handover Unit: the receiver -/

/-- DEFER with retry-after AskRetry × 2 (R152). -/
def answerDefer (st : Nat) (q reason : Byte) (s : State) : State :=
  requestFrame (stationByte st) (.defer q reason (BitVec.ofNat 16 (s.cfg.askRetry * 2))) s

def answerGrant (st : Nat) (q : Byte) (v : Nat) (s : State) : State :=
  requestFrame (stationByte st) (.grant q (BitVec.ofNat 16 v)) s

/-- The INBOUND job made at GRANT (R38). -/
def inboundJob (tag v carrier cls age p : Nat) : Job :=
  { tag := tag, senderTag := none, carrier := carrier, cls := cls, mode := .single, rearm := false, count := 1,
    reload := 1, movesDone := 0, source := .arrival, dest := .here p, originalDest := none, age := age,
    callBarred := false, state := .inbound, holdReason := none, vehicle := some (v, .current), reservation := none,
    callLink := none, askSeq := none }

/-- An ASK that passes every test is granted in one step (R153). -/
def grantInbound (st : Nat) (q : Byte) (v carrier cls age p : Nat) (s : State) : State :=
  let t := provisionalTag s
  let s := expectVehicle v (some carrier) t st (.laden q) s
  let s := s.onJt fun x => { x with jobs := x.jobs ++ [inboundJob t v carrier cls age p] }
  answerGrant st q v (tryReserve t p s)

/-- The tests of R152 in their order, in RUN. -/
def askInRun (st : Nat) (q : Byte) (v carrier cls age p : Nat) (s : State) : State :=
  if (expectedFor st v (.laden q) s).isSome then answerGrant st q v s
  else if !(p < Config.portCount && (getPort p s).takes) then requestFrame (stationByte st) (.deny q 0) s
  else if !canExpect v s then answerDefer st q 1 s
  else if Config.jobSlots ≤ s.jt.jobs.length then answerDefer st q 2 s
  else if !(getPort p s).hasRoom 0 then answerDefer st q 0 s
  else grantInbound st q v carrier cls age p s

/-- ASK (R152): NOT_RUN in CONFIG, ignored in ISOLATED. -/
def askHeard (st : Nat) (q : Byte) (v carrier cls age p : Nat) (s : State) : State :=
  if !vehicleInRange v ∨ carrier = 0 then s
  else
    match s.cpc.level with
    | .config => answerDefer st q 3 s
    | .isolated => s
    | .run => askInRun st q v carrier cls age p s

/-! ### The Handover Unit: the sender -/

/-- The entry an answer matches (R145). -/
def matchAsk (st : Nat) (q : Byte) (s : State) : Option AskEntry :=
  s.hu.askList.find? fun e => e.station == st && e.askSeq == some q

/-- GRANT (R145): it must also carry the entry's vehicle. -/
def grantHeard (st : Nat) (q : Byte) (v : Nat) (s : State) : State :=
  match matchAsk st q s with
  | some e => if e.vehicle = v ∧ e.state ≠ .granted then grantAsk e s else s
  | none => s

/-- DEFER (R145): in ASKING and DEFERRED, the later of retry-after and AskRetry. -/
def deferHeard (st : Nat) (q : Byte) (retryAfter : Nat) (s : State) : State :=
  match matchAsk st q s with
  | some e =>
    if e.state = .asking ∨ e.state = .deferred then
      modifyAsk e.tag (fun x =>
        { x with state := .deferred, retryDeadline := some (s.deadlineIn (max retryAfter s.cfg.askRetry)) }) s
    else s
  | none => s

/-- DENY (R145, R147). -/
def denyHeard (st : Nat) (q : Byte) (s : State) : State :=
  match matchAsk st q s with
  | some e => if e.state = .granted then s else redirect e.tag .denied s
  | none => s

/-! ### HANDOFF (R39, R155) -/

/-- The record enters IN_TRANSIT with a deadline of TransitLimit (R155). -/
def enterTransit (v : Nat) (s : State) : State :=
  modifyVehicle v (fun r =>
    { r with
      inbound := r.inbound.map fun i =>
        { i with phase := .inTransit, deadline := s.deadlineIn (s.cfg.transitLimit * 1000) } }) s

/-- HANDOFF of kind LENT (R155). -/
def handoffLentHeard (st v : Nat) (id : CallId) (s : State) : State :=
  match expectedFor st v (.lent id) s with
  | some (_, i) => if i.phase = .awaitHandoff then endTaken id v (enterTransit v s) else s
  | none => s

/-- The sender's tag settles the tag of the INBOUND job that a record names (R21). Tag 0 is no tag (R18). -/
def settleTag (v own sent : Nat) (s : State) : State :=
  if sent = 0 ∨ sent = own then s
  else if (findJob sent s).isSome then modifyJob own (fun j => { j with senderTag := some sent }) s
  else
    modifyVehicle v (fun r => { r with currentJob := some sent }) (modifyJob own (fun j => { j with tag := sent }) s)

/-- HANDOFF of kind LADEN: the INBOUND job takes the fields it carries; its destination stays the port of the ASK
(R39, R155). -/
def handoffLadenHeard (st v : Nat) (q : Byte) (tag carrier cls age movesDone : Nat) (s : State) : State :=
  match expectedFor st v (.laden q) s with
  | some (r, i) =>
    if i.phase = .awaitHandoff then
      let s := modifyVehicle v (fun x => { x with laden := some carrier }) (enterTransit v s)
      match r.currentJob with
      | some t =>
        settleTag v t tag
          (modifyJob t (fun j => { j with carrier := carrier, cls := cls, age := age, movesDone := movesDone }) s)
      | none => s
    else s
  | none => s

end Sys2Proof.Machine
end

