-- ==== Sys2Proof/Machine/Receive.lean ====
section
/-! DEFINITION. The receiving side of the Peer Bus Controller (R167 to R169, R174, R175), the attempts and ends of its
own transmissions (R165, R166), and the bytes of a frame as heard on a line. -/

namespace Sys2Proof.Machine

/-- The acceptance test (R169). DESIGN CHOICE (log 56): a target byte above 63 names no station. -/
def accepted (target : Byte) (s : State) : Bool :=
  let t := target.toNat
  if t < 32 then t == s.cfg.station
  else if t < 48 then s.cfg.groupMask.getLsbD (t - 32)
  else t == 63

/-- A good frame from another station in RUN or ISOLATED sets its entry LIVE with freshness FreshLimit; a change of the
entry's state wakes the Dispatcher (R174). -/
def refreshPeer (st : Nat) (s : State) : State :=
  if s.cpc.level = .config then s
  else
    let p := getPeer st s
    let s := modifyPeer st (fun p => { p with state := .live, freshness := s.cfg.freshLimit }) s
    if p.state = .live then s else wake s

/-- A BEACON's five values, each at most the top of its range (R175). -/
def storeBeacon (st : Nat) (spare records slots waiting quiet : Byte) (s : State) : State :=
  modifyPeer st (fun p =>
    { p with
      spare := min spare.toNat 24
      freeRecords := min records.toNat 24
      freeJobSlots := min slots.toNat 64
      waitingJobs := min waiting.toNat 64
      quiet := quiet ≠ 0 }) s

/-- An accepted frame is delivered by its kind, with its sender's station number (R169). -/
def deliver (st : Nat) (p : Payload) (s : State) : State :=
  match p with
  | .take id chosen v => takeHeard id chosen.toNat v.toNat s
  | .close id => closeHeard id s
  | .refuse id v => refuseHeard st id v.toNat s
  | .grant q v => grantHeard st q v.toNat s
  | .defer q _ t => deferHeard st q t.toNat s
  | .deny q _ => denyHeard st q s
  | .handoffLent v id => handoffLentHeard st v.toNat id s
  | .handoffLaden v q t k c a _ _ d => handoffLadenHeard st v.toNat q t.toNat k.toNat c.toNat a.toNat d.toNat s
  | .offer id v e => offerHeard st id v.toNat e.toNat s
  | .ask q v k c a p => askHeard st q v.toNat k.toNat c.toNat a.toNat p.toNat s
  | .call id _ u => callHeard st id u.toNat s
  | .beacon a b c d e => if s.cpc.level = .config then s else storeBeacon st a b c d e s

/-- The Handover Unit's test of its HELD entries, due when the entry's state changed or a BEACON was taken (R143). -/
def retestAfter (st : Nat) (changed : Bool) (s : State) : State := if changed then retestHeld st s else s

/-- Step 5 of R167: the refresh, and, for an accepted frame, its delivery. `none` is a frame not accepted. A BEACON's
values are stored before the HELD entries are tested (R175). -/
def otherFrame (st : Nat) (p : Option Payload) (s : State) : State :=
  let changed := s.cpc.level != .config && (getPeer st s).state != .live
  let s := refreshPeer st s
  match p with
  | none => retestAfter st changed s
  | some (.beacon a b c d e) =>
    if s.cpc.level = .config then s else retestHeld st (storeBeacon st a b c d e s)
  | some q => deliver st q (retestAfter st changed s)

/-- A good frame on the observed line that bears the own station number and is no echo (R168). -/
def duplicateFrame (s : State) : State :=
  if s.pbc.duplicate then s
  else
    let s := post (.duplicateStation s.cpc.level) (s.onPbc fun b => { b with duplicate := true })
    if s.cpc.level = .run then isolateWith .duplicateStation s else s

/-- A good frame on the observed line that bears the own station number (R167, R168). While an own frame stands on the
line, one on the line of its echo stands in place of the echo and is judged when the transmission ends (DEDUCED, log
9); one on the other line, which the device observes since a switch, counts there as a good frame and is no duplicate
(R170, R172). So is the copy that ends with the transmission and is taken behind its echo (R167; DEDUCED, log 55). Any
other is a duplicate. -/
def ownNumberFrame (s : State) : State :=
  match s.pbc.onLine with
  | some o => if o.line = s.pbc.observed then s else countGood s.pbc.observed s
  | none =>
    if s.pbc.ownCopy = some (s.pbc.observed, s.now) then
      countGood s.pbc.observed (s.onPbc fun b => { b with ownCopy := none })
    else duplicateFrame (countGood s.pbc.observed s)

/-- A good frame heard on the observed line (R167 to R169). DESIGN CHOICE: a frame of the line observed before, taken
just after the silence expiry has switched, counts on the line observed now (log 54). -/
def observedFrame (h : FrameHead) (p : Option Payload) (s : State) : State :=
  if h.sender.toNat = s.cfg.station then ownNumberFrame s
  else
    let s := countGood s.pbc.observed s
    otherFrame h.sender.toNat (if accepted h.target s then p else none) s

/-- A frame whose version is not 1 (R167). -/
def countVersion (l : Line) (s : State) : State :=
  match s.cfg.versionPolicy with
  | .ignore => s
  | .count => countBad l s

/-- The bytes of a frame heard on a line, checked in the order of R167. -/
def frameBytes (l : Line) (bytes : List Byte) (s : State) : State :=
  match hear bytes with
  | .badForm => countBad l s
  | .otherVersion => countVersion l s
  | .good f =>
    if l = s.pbc.observed then observedFrame { sender := f.sender, target := f.target } (some f.payload) s
    else countGood l s

/-! ### Own transmissions (R165, R166) -/

/-- An attempt begins: the head of the queue stands as the frame on the line (R165). -/
def beginAttempt (s : State) : State :=
  match s.pbc.onLine, s.pbc.txQueue with
  | none, f :: q =>
    s.onPbc fun b =>
      { b with
        txQueue := q
        onLine := some
          { frame := f, sender := s.cfg.station, line := b.observed, noReturn := false, newerBeacon := false } }
  | _, _ => s

/-- The frame returns to the queue with its original queue time, or, where the queue has filled to 8, is placed as
though newly requested under the last two rows of R164 (R165). -/
def returnFrame (f : TxFrame) (s : State) : State :=
  if s.pbc.txQueue.length < Config.txSlots then setQueue (joinAhead f s.pbc.txQueue) s
  else
    match placeAtFull f s with
    | (s, some dropped) => toldUnsent dropped s
    | (s, none) => s

/-- The frame is discarded without notice if it loses contention: ISOLATED or STOP was entered while it stood on the
line (R176), or it is a BEACON and a newer one was queued meanwhile, be it still queued or displaced since (R165). -/
def OnLine.discarded (o : OnLine) : Bool := o.noReturn || (o.frame.isBeacon && o.newerBeacon)

/-- Contention lost (R165). -/
def loseContention (s : State) : State :=
  match s.pbc.onLine with
  | none => s
  | some o =>
    let s := s.onPbc fun b => { b with onLine := none }
    if o.discarded then s else returnFrame o.frame s

/-- The bytes sent for the frame on the line (11.2). -/
def OnLine.bytes (o : OnLine) : List Byte :=
  Frame.encode { sender := BitVec.ofNat 5 o.sender, target := o.frame.target, payload := o.frame.payload }

/-- What an echo counts on its line (R166, R167). -/
def countEcho (l : Line) (bytes : List Byte) (s : State) : State :=
  match hear bytes with
  | .good _ => countGood l s
  | .badForm => countBad l s
  | .otherVersion => countVersion l s

/-- The echo is judged: the failure count becomes 0 or rises by 1, saturating at 31 (R166). -/
def judgeEcho (o : OnLine) (echo : Option (List Byte)) (s : State) : State :=
  let s := match echo with
    | some b => countEcho o.line b s
    | none => s
  if echo = some o.bytes then s.onPbc fun b => { b with txFailures := 0 }
  else s.onPbc fun b => { b with txFailures := min (b.txFailures + 1) 31 }

/-- The block that handed a frame over is told that it has been transmitted: a CALL's offer window starts (R119,
R165). -/
def toldSent (p : Payload) (s : State) : State :=
  match p with
  | .call id _ _ =>
    match unsentCall id s with
    | some c => modifyOwnCall c.slot (fun x => { x with windowDeadline := some (s.deadlineIn s.cfg.offerWindow) }) s
    | none => s
  | _ => s

/-- The frame leaves the line. Where the line observed is no longer that of the echo, the frame's copy on the line
observed ends at this moment too, and is taken behind the echo (R167; DEDUCED, log 55). -/
def leaveLine (o : OnLine) (s : State) : State :=
  s.onPbc fun b =>
    { b with
      onLine := none
      ownCopy := if o.line = b.observed then b.ownCopy else some (b.observed, s.now) }

/-- A transmission ends (R165, R166); the failure count reaching TxFailLimit in RUN isolates the station (R185). -/
def endTransmission (echo : Option (List Byte)) (s : State) : State :=
  match s.pbc.onLine with
  | none => s
  | some o =>
    let s := toldSent o.frame.payload (judgeEcho o echo (leaveLine o s))
    if echo ≠ some o.bytes ∧ s.cpc.level = .run ∧ s.cfg.txFailLimit ≤ s.pbc.txFailures then isolateWith .txFail s
    else s

end Sys2Proof.Machine
end

