-- ==== Sys2Proof/Machine/Records.lean ====
section
/-! DEFINITION. The payload bytes of the responses (R193, 11.4) and the notice record (11.5). A byte that carries
nothing is 0, or 255 where its field is a station, port, slot or code (11.4). -/

namespace Sys2Proof.Machine

def byteOf (n : Nat) : List Byte := bytesOf 1 n

/-- An absent station, port, slot or one-byte code is 255 (R190). -/
def codeOrBlank (o : Option Nat) : List Byte := byteOf (o.getD 255)

/-- Presence bits, bit 0 first (R193). -/
def presence : List Bool → Nat
  | [] => 0
  | b :: bs => yesNo b + 2 * presence bs

def callNumber (id : CallId) : Nat := id.station.toNat * 256 + id.seq.toNat

/-! ### Notices (11.5) -/

/-- The fields of a notice record after its kind and time: absent tags and vehicles are 0, absent stations and reasons
255, and a value the kind does not carry 0. -/
structure NoticeFields where
  kind : Nat
  tag : Nat := 0
  senderTag : Nat := 0
  vehicle : Nat := 0
  station : Nat := 255
  reason : Nat := 255
  value : Nat := 0
  deriving DecidableEq, Repr

/-- The port a redirected job was going to, and its remote station, 255 for a local port (11.5). -/
def Dest.port : Dest → Nat
  | .here p => p
  | .remote _ p => p

def Dest.station : Dest → Nat
  | .here _ => 255
  | .remote st _ => st

/-- What each kind of notice carries (11.5, and the rule that raises it). -/
def NoticeBody.fields : NoticeBody → NoticeFields
  | .jobDone t s v d => { kind := 1, tag := t, senderTag := s.getD 0, vehicle := v, value := d }
  | .jobHanded t s v st => { kind := 2, tag := t, senderTag := s.getD 0, vehicle := v, station := st }
  | .jobCancelled t s => { kind := 3, tag := t, senderTag := s.getD 0 }
  | .jobFailed t s v r c =>
    { kind := 4, tag := t, senderTag := s.getD 0, vehicle := v, reason := r.code, value := c }
  | .jobRedirected t s v r g =>
    { kind := 5, tag := t, senderTag := s.getD 0, vehicle := v, station := g.station, reason := r.code,
      value := g.port }
  | .noLender t s id => { kind := 6, tag := t, senderTag := s.getD 0, value := callNumber id }
  | .vehicleFault v r => { kind := 7, vehicle := v, reason := r.code }
  | .vehicleLost v r => { kind := 8, vehicle := v, reason := r.code }
  | .ownerConflict v o => { kind := 9, vehicle := v, station := o.getD 255 }
  | .stray v o t c => { kind := 10, tag := t.getD 0, vehicle := v, station := o.getD 255, value := c }
  | .strayRefused v o => { kind := 11, vehicle := v, station := o.getD 255 }
  | .inboundOverdue v st t s => { kind := 12, tag := t.getD 0, senderTag := s.getD 0, vehicle := v, station := st }
  | .inboundLost v st t s => { kind := 13, tag := t.getD 0, senderTag := s.getD 0, vehicle := v, station := st }
  | .portMismatch t s p => { kind := 14, tag := t, senderTag := s.getD 0, value := p }
  | .lineSwitch l c => { kind := 15, reason := c.code, value := l.code }
  | .busDegraded a b => { kind := 16, value := a * 256 + b }
  | .duplicateStation l => { kind := 17, value := l.code }
  | .levelChange a b c => { kind := 18, reason := c.code, value := a.code * 256 + b.code }
  | .txDrop k t => { kind := 19, station := t.toNat, reason := k }
  | .stopped n => { kind := 20, value := n }

/-- The 16 bytes of a notice record (11.5). -/
def Notice.bytes (n : Notice) : List Byte :=
  let f := n.body.fields
  byteOf f.kind ++ bytesOf 4 n.time ++ bytesOf 2 f.tag ++ bytesOf 2 f.senderTag ++ bytesOf 2 f.vehicle ++
    byteOf f.station ++ byteOf f.reason ++ bytesOf 3 f.value

/-- The record of an absent notice (log 31). -/
def blankNotice : List Byte := [255, 0, 0, 0, 0, 0, 0, 0, 0, 0, 0, 255, 255, 0, 0, 0]

/-- The NOTICE_READ payload (R181): bit 0 notice present, bit 1 overflow, and the head. -/
def noticeReadBytes (s : State) : List Byte :=
  match s.cpc.notices with
  | n :: _ => byteOf (presence [true, s.cpc.overflow]) ++ n.bytes
  | [] => byteOf (presence [false, s.cpc.overflow]) ++ blankNotice

/-! ### JOB_READ (R49, R193) -/

def Source.bytes : Source → List Byte
  | .port p => byteOf p
  | .arrival => byteOf 255

/-- Station (255 local), then port. -/
def Dest.bytes (d : Dest) : List Byte := byteOf d.station ++ byteOf d.port

def jobBytes (j : Job) (s : State) : List Byte :=
  byteOf (presence
      [j.senderTag.isSome, j.originalDest.isSome, j.holdReason.isSome, j.vehicle.isSome, j.reservation.isSome,
       j.callLink.isSome, j.askSeq.isSome]) ++
    bytesOf 2 j.tag ++ bytesOf 2 (j.senderTag.getD 0) ++ bytesOf 3 j.carrier ++
    byteOf j.cls ++ byteOf j.mode.code ++ byteOf (yesNo j.rearm) ++ byteOf j.count ++ byteOf j.reload ++
    bytesOf 2 j.movesDone ++ j.source.bytes ++ j.dest.bytes ++
    (match j.originalDest with
      | some d => d.bytes
      | none => [255, 255]) ++
    byteOf j.age ++ byteOf (yesNo j.callBarred) ++ byteOf j.state.code ++
    codeOrBlank (j.holdReason.map HoldReason.code) ++ bytesOf 2 ((j.vehicle.map (·.1)).getD 0) ++
    codeOrBlank (j.vehicle.map (·.2.code)) ++ codeOrBlank j.reservation ++ codeOrBlank j.callLink ++
    [j.askSeq.getD 0] ++ byteOf (admissionPlace j.tag s) ++ bytesOf 2 (urgency j s)

def blankJob : List Byte :=
  [0, 0, 0, 0, 0, 0, 0, 0, 0, 255, 0, 0, 0, 0, 0, 255, 255, 255, 255, 255, 0, 0, 255, 255, 0, 0, 255, 255, 255, 0, 0,
   0, 0]

def jobReadBytes (tag : Nat) (s : State) : List Byte :=
  match findJob tag s with
  | some j => jobBytes j s
  | none => blankJob

/-! ### VEHICLE_READ (R87, R193) -/

/-- Milliseconds until a deadline, and since a moment. -/
def remaining (deadline : Nat) (s : State) : List Byte := bytesOf 4 (deadline - s.now)

def elapsed (since : Nat) (s : State) : List Byte := bytesOf 4 (s.now - since)

/-- The inbound part (R64), blank where the record has none; the reference is then sent as 0, 0 (DEDUCED, log 31). -/
def inboundBytes (i : Option Inbound) (s : State) : List Byte :=
  match i with
  | some i =>
    byteOf i.station ++
      (match i.ref with
        | .lent id => byteOf 0 ++ id.bytes
        | .laden q => byteOf 1 ++ [0, q]) ++
      byteOf i.phase.code ++ remaining i.deadline s
  | none => [255, 255, 0, 0, 255, 0, 0, 0, 0]

/-- The pledge part (R64), blank where the record has none; its call id is then sent as 0, 0 (DEDUCED, log 31). -/
def pledgeBytes (p : Option Pledge) (s : State) : List Byte :=
  match p with
  | some p => byteOf p.caller ++ p.call.bytes ++ remaining p.holdDeadline s
  | none => [255, 0, 0, 0, 0, 0, 0]

/-- The lend part (R64), blank where the record has none; its call id is then sent as 0, 0 (DEDUCED, log 31). -/
def lendBytes : Option Lend → List Byte
  | some l => byteOf l.caller ++ l.call.bytes
  | none => [255, 0, 0]

def priorBytes : Option Prior → List Byte
  | some p => byteOf p.state.code ++ byteOf (yesNo p.abandoned)
  | none => [255, 0]

/-- The ten optional fields of R64 in its order; the first eight stand in the first presence byte (log 28). -/
def vehiclePresence (r : Vehicle) : List Byte :=
  byteOf (presence
      [r.position.isSome, r.target.isSome, r.currentJob.isSome, r.nextJob.isSome, r.parkSlot.isSome,
       r.faultReason.isSome, r.inbound.isSome, r.pledge.isSome]) ++
    byteOf (presence [r.lend.isSome, r.prior.isSome])

def vehicleBytes (r : Vehicle) (s : State) : List Byte :=
  vehiclePresence r ++ bytesOf 2 r.vehicle ++ byteOf r.state.code ++ bytesOf 2 (r.position.getD 0) ++
    byteOf (yesNo r.laden.isSome) ++ bytesOf 3 (r.laden.getD 0) ++ byteOf (yesNo r.ownerConfirmed) ++
    bytesOf 2 (r.target.getD 0) ++ bytesOf 2 (r.currentJob.getD 0) ++ bytesOf 2 (r.nextJob.getD 0) ++
    codeOrBlank r.parkSlot ++ bytesOf 4 (timebase (r.idleSince.getD 0)) ++
    codeOrBlank (r.faultReason.map FaultReason.code) ++
    inboundBytes r.inbound s ++ pledgeBytes r.pledge s ++ lendBytes r.lend ++ priorBytes r.prior ++
    elapsed (r.lastStatus.getD s.now) s ++ remaining (r.lostHold.getD 0) s ++ [0, 0, 0]

/-- A VEHICLE_READ payload that carries nothing (R87, 11.4; DEDUCED, log 31). -/
def blankVehicle : List Byte :=
  [0, 0, 0, 0, 255, 0, 0, 0, 0, 0, 0, 0, 0, 0, 0, 0, 0, 0, 255, 0, 0, 0, 0, 255] ++
    [255, 255, 0, 0, 255, 0, 0, 0, 0] ++ [255, 0, 0, 0, 0, 0, 0] ++ [255, 0, 0] ++ [255, 0] ++
    [0, 0, 0, 0, 0, 0, 0, 0, 0, 0, 0]

def vehicleStates : List VehicleState :=
  [.expected, .idle, .parking, .toPickup, .loading, .laden, .unloading, .holding, .pledged, .departing, .faulted, .lost]

/-- Records in each vehicle state (R87, R189). -/
def vehicleCounts (s : State) : List Byte :=
  vehicleStates.flatMap fun st => byteOf (s.vr.records.countP fun r => r.state == st)

/-- The roster summary for vehicle 0 (R87), with fill to 56 bytes. -/
def rosterBytes (s : State) : List Byte :=
  byteOf (idleCount s) ++ byteOf (freeRecords s) ++ vehicleCounts s ++ byteOf s.vr.passList.length ++
    ((List.range Config.passSlots).flatMap fun i => bytesOf 2 ((s.vr.passList[i]?.map (·.vehicle)).getD 0)) ++
    ((List.range Config.parkSlots).flatMap fun i => bytesOf 2 ((parkOccupant i s).getD 0)) ++ List.replicate 9 0

def vehicleReadBytes (v : Nat) (s : State) : List Byte :=
  if v = 0 then rosterBytes s
  else
    match findVehicle v s with
    | some r => vehicleBytes r s
    | none => blankVehicle

/-! ### PORT_SET, PEER_READ, STATUS_READ -/

/-- The port's record (R55). -/
def portBytes (p : Nat) (s : State) : List Byte :=
  let q := getPort p s
  byteOf q.mode.code ++ bytesOf 2 q.position ++ byteOf q.capacity ++ byteOf q.occupied ++ byteOf q.reserved ++
    byteOf (yesNo q.ready) ++ byteOf q.waitList.length

def blankPort : List Byte := [255, 0, 0, 0, 0, 0, 0, 0]

/-- The peer table entry and its Leg (R177). -/
def peerBytes (st : Nat) (s : State) : List Byte :=
  let p := getPeer st s
  byteOf p.state.code ++ byteOf p.freshness ++ byteOf p.spare ++ byteOf p.freeRecords ++ byteOf p.freeJobSlots ++
    byteOf p.waitingJobs ++ byteOf (yesNo p.quiet) ++ bytesOf 2 (legTo st s)

def blankPeer : List Byte := [255, 0, 0, 0, 0, 0, 0, 0, 0]

def jobStates : List JobState := [.waiting, .calling, .assigned, .loading, .carrying, .holding, .paused, .inbound]

def askStates : List AskState := [.held, .asking, .deferred, .granted]

def phases : List Phase := [.awaitHandoff, .inTransit, .overdue]

def cpcGroup (s : State) : List Byte :=
  byteOf s.cpc.level.code ++ codeOrBlank (s.cpc.isolationCause.map Cause.code) ++ byteOf (yesNo s.cpc.checked) ++
    bytesOf 4 (timebase s.now) ++ byteOf s.cpc.notices.length ++ byteOf (yesNo s.cpc.overflow)

def jtGroup (s : State) : List Byte :=
  byteOf s.jt.jobs.length ++ byteOf (freeJobSlots s) ++ byteOf (waitingJobs s) ++
    jobStates.flatMap fun st => byteOf (s.jt.jobs.countP fun j => j.state == st)

def vrGroup (s : State) : List Byte := byteOf (idleCount s) ++ byteOf (freeRecords s) ++ vehicleCounts s

/-- The vehicle last counted, or vehicle 0 with count 0 (R89). -/
def flcGroup (s : State) : List Byte :=
  bytesOf 2 s.flc.formatTotal ++ bytesOf 2 s.flc.unmatchedTotal ++ bytesOf 2 (s.flc.lastCounted.getD 0) ++
    byteOf ((s.flc.lastCounted.map fun v => (getLink v s).formatErrors).getD 0)

def cuGroup (s : State) : List Byte :=
  byteOf (spare s) ++ byteOf (yesNo s.cu.quiet) ++ byteOf (s.cu.ownCalls.countP fun c => c.state == .openCall) ++
    byteOf (s.cu.ownCalls.countP fun c => c.state == .retryWait) ++ byteOf s.cu.takenCalls.length ++
    byteOf (s.cu.incoming.countP fun e => e.pledge.isSome) ++
    byteOf (s.cu.incoming.countP fun e => e.pledge.isNone) ++ byteOf (yesNo s.cu.reclaimDeadline.isSome)

def huGroup (s : State) : List Byte :=
  byteOf s.hu.exitQueue.length ++ bytesOf 2 ((s.hu.exitQueue.head?.map (·.vehicle)).getD 0) ++
    (askStates.flatMap fun st => byteOf (s.hu.askList.countP fun e => e.state == st)) ++
    phases.flatMap fun ph => byteOf (s.vr.records.countP fun r => r.inbound.any fun i => i.phase == ph)

def pbcGroup (s : State) : List Byte :=
  byteOf s.pbc.observed.code ++ byteOf s.pbc.errA ++ byteOf s.pbc.errB ++ byteOf (yesNo s.pbc.degraded) ++
    byteOf (yesNo s.pbc.duplicate) ++ byteOf s.pbc.txFailures ++ byteOf s.pbc.txQueue.length ++
    byteOf (yesNo s.pbc.onLine.isSome)

/-- The seven groups of R189 in the order of its table. -/
def statusBytes (s : State) : List Byte :=
  cpcGroup s ++ jtGroup s ++ vrGroup s ++ flcGroup s ++ cuGroup s ++ huGroup s ++ pbcGroup s

/-! ### The response record (R179, 11.4) -/

/-- The bytes clocked out after the turnaround byte: the four-byte header, then the payload. -/
def Response.bytes (r : Response) : List Byte :=
  [r.code] ++ byteOf r.result.code ++ byteOf r.level.code ++ byteOf r.noticeCount ++ r.payload

/-- What CPDO carries for the command taken; none while no transaction's command has been taken (R178, R188). -/
def responseBytes (s : State) : Option (List Byte) := s.cpc.transaction.map fun t => t.response.bytes

end Sys2Proof.Machine
end

