-- ==== Sys2Proof/Machine/Configuration.lean ====
section
/-! DEFINITION. The configuration store as the host writes and checks it: the 44 items with their index and range (R2,
R182, R193), the value stored (R182), and the tests of CFG_CHECK (R183). -/

namespace Sys2Proof.Machine

/-- An item of the store: how many indices it takes (1 for an item without one, whose index must be 0), its written
range, and whether it may be absent. -/
structure Item where
  indices : Nat
  lo : Nat
  hi : Nat
  mayBeAbsent : Bool := false
  deriving DecidableEq, Repr

/-- The items by their numbers, in the order of R182's table with R2's items and the port row taken item by item
(R193). GroupMask has the range of its 16 bits. DESIGN CHOICE (log 60): a value with bits above them is outside the
range, not one with unused bits. -/
def itemOf : Nat → Option Item
  | 1 => some { indices := 1, lo := 0, hi := 31 }
  | 2 => some { indices := 1, lo := 0, hi := 65535 }
  | 3 => some { indices := 1, lo := 32, hi := 63 }
  | 4 => some { indices := 1, lo := 64, hi := 16383 }
  | 5 => some { indices := 1, lo := 1, hi := 16382 }
  | 6 => some { indices := 32, lo := 0, hi := 65535 }
  | 7 => some { indices := 1, lo := 0, hi := 4095 }
  | 8 | 9 => some { indices := 1, lo := 0, hi := 65535 }
  | 10 => some { indices := 8, lo := 0, hi := 4095 }
  | 11 => some { indices := 1, lo := 0, hi := 15 }
  | 12 => some { indices := 1, lo := 0, hi := 60000 }
  | 13 => some { indices := 1, lo := 1, hi := 100 }
  | 14 => some { indices := 1, lo := 1, hi := 300 }
  | 15 => some { indices := 48, lo := 0, hi := 3 }
  | 16 => some { indices := 48, lo := 0, hi := 16382 }
  | 17 => some { indices := 48, lo := 1, hi := 4 }
  | 18 => some { indices := 8, lo := 0, hi := 16382, mayBeAbsent := true }
  | 19 => some { indices := 1, lo := 0, hi := 47, mayBeAbsent := true }
  | 20 | 22 => some { indices := 1, lo := 0, hi := 7 }
  | 21 => some { indices := 1, lo := 1, hi := 600 }
  | 23 => some { indices := 1, lo := 0, hi := 24 }
  | 24 => some { indices := 1, lo := 0, hi := 3600 }
  | 25 => some { indices := 1, lo := 1, hi := 600 }
  | 26 => some { indices := 1, lo := 0, hi := 1 }
  | 27 => some { indices := 1, lo := 10, hi := 2000 }
  | 28 => some { indices := 1, lo := 0, hi := 500 }
  | 29 => some { indices := 1, lo := 100, hi := 10000 }
  | 30 => some { indices := 1, lo := 100, hi := 30000 }
  | 31 => some { indices := 1, lo := 0, hi := 15 }
  | 32 => some { indices := 1, lo := 1, hi := 600 }
  | 33 => some { indices := 1, lo := 1, hi := 900 }
  | 34 => some { indices := 1, lo := 100, hi := 10000 }
  | 35 => some { indices := 1, lo := 1, hi := 900 }
  | 36 => some { indices := 1, lo := 1, hi := 600 }
  | 37 => some { indices := 1, lo := 100, hi := 5000 }
  | 38 => some { indices := 1, lo := 2, hi := 15 }
  | 39 => some { indices := 1, lo := 1, hi := 255 }
  | 40 => some { indices := 1, lo := 10, hi := 1000 }
  | 41 => some { indices := 1, lo := 1, hi := 31 }
  | 42 => some { indices := 1, lo := 0, hi := 1 }
  | 43 => some { indices := 1, lo := 100, hi := 10000 }
  | 44 => some { indices := 1, lo := 1, hi := 600 }
  | _ => none

/-- The nearer end of a range, for a value outside it. -/
def clamp (lo hi v : Nat) : Nat := max lo (min hi v)

/-- CallGroup stores 32 for a value below 32 and 63 for one above 47 (R182). -/
def callGroupOf (v : Nat) : Nat := if v < 32 then 32 else if v ≤ 47 then v else 63

/-- The value that is stored for a value written (R182). -/
def storedValue (item : Nat) (i : Item) (v : Nat) : Nat :=
  if i.mayBeAbsent ∧ v = Config.absentValue then v
  else if item = 3 then callGroupOf v
  else clamp i.lo i.hi v

def present (v : Nat) : Option Nat := if v = Config.absentValue then none else some v

/-- An item of the store proper takes a value. -/
def Cfg.put (item index v : Nat) (c : Cfg) : Cfg :=
  match item with
  | 1 => { c with station := v }
  | 2 => { c with groupMask := BitVec.ofNat 16 v }
  | 3 => { c with callGroup := v }
  | 4 => { c with loopLength := v }
  | 5 => { c with exitPoint := v }
  | 6 => { c with leg := c.leg.setIfInBounds index v }
  | 7 => { c with hoistAllowance := v }
  | 8 => { c with reachLimit := v }
  | 9 => { c with quickAccept := v }
  | 10 => { c with classBase := c.classBase.setIfInBounds index v }
  | 11 => { c with ageGain := v }
  | 12 => { c with travelBase := v }
  | 13 => { c with markAllow := v }
  | 14 => { c with hoistLimit := v }
  | 18 => { c with park := c.park.setIfInBounds index (present v) }
  | 19 => { c with fallback := present v }
  | 20 => { c with strayClass := v }
  | 21 => { c with agingInterval := v }
  | 22 => { c with hotMax := v }
  | 23 => { c with reserveFloor := v }
  | 24 => { c with quietInterval := v }
  | 25 => { c with parkDelay := v }
  | 26 => { c with lendOrder := LendOrder.atPosition v }
  | 27 => { c with offerWindow := v }
  | 28 => { c with reclaimWindow := v }
  | 29 => { c with pledgeHold := v }
  | 30 => { c with callRetryInterval := v }
  | 31 => { c with callRetries := v }
  | 32 => { c with departLimit := v }
  | 33 => { c with transitLimit := v }
  | 34 => { c with askRetry := v }
  | 35 => { c with admitWait := v }
  | 36 => { c with portWait := v }
  | 37 => { c with beaconPeriod := v }
  | 38 => { c with freshLimit := v }
  | 39 => { c with errThreshold := v }
  | 40 => { c with silenceLimit := v }
  | 41 => { c with txFailLimit := v }
  | 42 => { c with versionPolicy := VersionPolicy.atPosition v }
  | 43 => { c with statusTimeout := v }
  | 44 => { c with lostHold := v }
  | _ => c

/-- A port item takes a value; a capacity below the occupied count lowers occupied to it (R50). -/
def Port.put (item v : Nat) (p : Port) : Port :=
  match item with
  | 15 => { p with mode := PortMode.atPosition v }
  | 16 => { p with position := v }
  | 17 => { p with capacity := v, occupied := min p.occupied v }
  | _ => p

/-- The store takes a value: port items stand in the port records (R50). -/
def storeItem (item index v : Nat) (s : State) : State :=
  if 15 ≤ item ∧ item ≤ 17 then modifyPort index (Port.put item v) s else s.onCfg (Cfg.put item index v)

/-! ### CFG_CHECK (R183) -/

/-- The ports whose position is tested and fails, lowest first. -/
def badPorts (s : State) : List Nat :=
  (List.range Config.portCount).filter fun p =>
    (getPort p s).mode != .off && s.cfg.loopLength ≤ (getPort p s).position

def parkAt (i : Nat) (s : State) : Option Nat := s.cfg.park.getD i none

/-- The slots whose present position fails, lowest first. -/
def badParks (s : State) : List Nat :=
  (List.range Config.parkSlots).filter fun i => (parkAt i s).any fun q => s.cfg.loopLength ≤ q

/-- The pairs of slots with equal present positions, in the order of the lower slot and then the higher. -/
def equalParks (s : State) : List (Nat × Nat) :=
  (List.range Config.parkSlots).flatMap fun i =>
    ((List.range Config.parkSlots).filter fun j => i < j && (parkAt i s).isSome && parkAt i s == parkAt j s).map
      fun j => (i, j)

/-- The first item that fails, with the port or slot it names (R183). -/
def checkFailure (s : State) : Option (Nat × Option Nat) :=
  if s.cfg.loopLength ≤ s.cfg.exitPoint then some (1, none)
  else
    match badPorts s, badParks s, equalParks s with
    | p :: _, _, _ => some (2, some p)
    | [], i :: _, _ => some (3, some i)
    | [], [], (_, j) :: _ => some (4, some j)
    | [], [], [] =>
      match s.cfg.fallback with
      | none => some (5, none)
      | some p => if (getPort p s).takes then none else some (5, none)

end Sys2Proof.Machine
end

