-- ==== Sys2Proof/Machine/HostCommands.lean ====
section
/-! DEFINITION. The host's commands (chapter 10 and the rules it names), each with its result and response, and the ends
of a transaction (R178, R181). -/

namespace Sys2Proof.Machine

/-- The response is formed from the tables as they stand after the step (R178, R179). -/
def respond (code : Byte) (result : ResultCode) (payload : State → List Byte) (read : Option NoticeRead) (s : State) :
    State :=
  s.onCpc fun c =>
    { c with
      transaction := some
        { response :=
            { code := code, result := result, level := c.level, noticeCount := c.notices.length, payload := payload s },
          noticeRead := read } }

/-- A command answered. One that has an effect is answered after the end of its step, so that its notices count; a
read and a refused command change nothing else (R179, R189). -/
def answer (code : Byte) (result : ResultCode) (payload : State → List Byte) (s : State) : State :=
  respond code result payload none s

/-- A response without payload. -/
def reply (code : Byte) (result : ResultCode) (s : State) : State := answer code result (fun _ => []) s

/-! ### SUBMIT (R22, R23) -/

/-- The source and destination of a SUBMIT that passes tests 3 to 6 of R22, given its mode. -/
def submitRoute (r : SubmitRecord) (mode : JobMode) (s : State) : Option Dest :=
  let src := r.sourcePort.toNat
  let port := r.destPort.toNat
  let st := r.destStation.toNat
  if !(src < Config.portCount && (getPort src s).supplies && port < Config.portCount) then none
  else if r.destKind = 0 then
    if (getPort port s).takes ∧ port ≠ src then some (.here port) else none
  else if r.destKind = 1 then
    if st < Config.stationCount ∧ st ≠ s.cfg.station ∧ legTo st s ≠ 0 ∧ mode = .single ∧ r.count = 1 ∧ r.rearm = 0 then
      some (.remote st port)
    else none
  else none

/-- The record a SUBMIT asks for; `none` where one of tests 2 to 6 fails (R22, R23, R193). -/
def submitJob (r : SubmitRecord) (s : State) : Option Job :=
  match JobMode.read r.mode with
  | none => none
  | some m =>
    if r.tag ≠ 0 ∧ r.cls.toNat ≤ 7 ∧ r.count ≠ 0 ∧ r.rearm.toNat ≤ 1 then
      (submitRoute r m s).map fun d =>
        { tag := r.tag.toNat, senderTag := none, carrier := r.carrier.toNat, cls := r.cls.toNat, mode := m,
          rearm := r.rearm = 1, count := r.count.toNat, reload := r.count.toNat, movesDone := 0,
          source := .port r.sourcePort.toNat, dest := d, originalDest := none, age := 0, callBarred := false,
          state := .waiting, holdReason := none, vehicle := none, reservation := none, callLink := none,
          askSeq := none }
    else none

/-- The job joins the table at the end of the admission order; admission is bay activity (R23). -/
def admitJob (j : Job) (s : State) : State :=
  wake (startQuietTimer (s.onJt fun t => { t with jobs := t.jobs ++ [j] }))

def submit (r : SubmitRecord) (s : State) : State :=
  if s.cpc.level = .config then reply 1 .wrongLevel s
  else
    match submitJob r s with
    | none => reply 1 .badArg s
    | some j =>
      if (findJob j.tag s).isSome then reply 1 .duplicateTag s
      else if Config.jobSlots ≤ s.jt.jobs.length then reply 1 .tableFull s
      else reply 1 .ok (finish (admitJob j s))

/-! ### CANCEL (R44, R45) -/

/-- The undoing of a binding, and the retirement (R45). -/
def cancelAssigned (j : Job) (notice : NoticeBody) (s : State) : State :=
  match j.vehicle with
  | none => retire j.tag (some notice) s
  | some (v, .next) => wakeIfChain v (retire j.tag (some notice) s)
  | some (v, .current) =>
    match findVehicle v s with
    | none => retire j.tag (some notice) s
    | some r =>
      match r.inbound with
      | some i =>
        match i.ref with
        | .lent id => endTaken id v (retire j.tag (some notice) s)
        | .laden _ => retire j.tag (some notice) s
      | none => becomeIdle v (retire j.tag (some notice) (requestHalt v s))

/-- A job that is retired CANCELLED, with what is undone before (R44). -/
def cancelJob (j : Job) (s : State) : State :=
  let notice := NoticeBody.jobCancelled j.tag j.senderTag
  match j.state with
  | .calling => closeCallOf j.tag (retire j.tag (some notice) s)
  | .assigned => cancelAssigned j notice s
  | _ => retire j.tag (some notice) s

/-- The states in which CANCEL comes too late (R44). -/
def JobState.tooLate : JobState → Bool
  | .loading | .carrying | .holding | .inbound => true
  | _ => false

def cancel (tag : Half) (s : State) : State :=
  if s.cpc.level = .config then reply 2 .wrongLevel s
  else
    match findJob tag.toNat s with
    | none => reply 2 .unknownTag s
    | some j => if j.state.tooLate then reply 2 .tooLate s else reply 2 .ok (finish (cancelJob j s))

/-! ### PORT_SET (R55, R56) -/

/-- A wait of the port ends with LOAD (R56, R58). -/
def endWaitWithLoad (s : State) (tag : Nat) : State :=
  match (findJob tag s).bind (·.vehicle) with
  | some (v, _) => sendLoad tag v (endWait tag s)
  | none => endWait tag s

/-- PAUSED jobs whose source is the port return to WAITING with no hold reason (R29, R56). -/
def resumePaused (p : Nat) (s : State) : State :=
  s.onJt fun t =>
    { t with jobs := t.jobs.map fun j => if j.state = .paused ∧ j.source = .port p then j.toWaiting none else j }

/-- The port becomes ready (R56). -/
def portReady (p : Nat) (s : State) : State :=
  let waits := (getPort p s).waitList.map (·.tag)
  wake (resumePaused p (waits.foldl endWaitWithLoad (modifyPort p (fun q => { q with ready := true }) s)))

/-- The ready value given; the value it already has is no change (R56). -/
def setReady (p : Nat) (ready : Bool) (s : State) : State :=
  if (getPort p s).ready = ready then s
  else if ready then portReady p s
  else wake (modifyPort p (fun q => { q with ready := false }) s)

/-- PORT_SET taken: occupied and ready, each where it is present (R55). -/
def portChange (p : Nat) (ready occupied : Byte) (s : State) : State :=
  let s := if occupied = 255 then s else setOccupied p (min occupied.toNat (getPort p s).capacity) s
  if ready = 255 then s else setReady p (ready = 1) s

def portSet (port ready occupied : Byte) (s : State) : State :=
  let p := port.toNat
  if s.cpc.level = .config then answer 3 .wrongLevel (fun _ => blankPort) s
  else if !(p < Config.portCount && (getPort p s).mode != .off) || !(ready = 0 || ready = 1 || ready = 255) then
    answer 3 .badArg (fun _ => blankPort) s
  else
    let above := occupied != 255 && (getPort p s).capacity < occupied.toNat
    answer 3 (if above then .clamped else .ok) (portBytes p) (finish (portChange p ready occupied s))

/-! ### The roster and the reads -/

/-- A record VEHICLE_REMOVE may take (R77). -/
def removable (v : Nat) (s : State) : Bool := (findVehicle v s).any fun r => r.state == .faulted || r.state == .lost

def vehicleRemove (v : Half) (s : State) : State :=
  if s.cpc.level = .config then reply 4 .wrongLevel s
  else if removable v.toNat s then reply 4 .ok (finish (removeVehicle v.toNat s))
  else reply 4 .badArg s

def jobRead (tag : Half) (s : State) : State :=
  answer 5 (if (findJob tag.toNat s).isSome then .ok else .unknownTag) (jobReadBytes tag.toNat) s

def vehicleRead (v : Half) (s : State) : State :=
  answer 6 (if v = 0 ∨ (findVehicle v.toNat s).isSome then .ok else .badArg) (vehicleReadBytes v.toNat) s

def peerRead (st : Byte) (s : State) : State :=
  if st.toNat < Config.stationCount then answer 7 .ok (peerBytes st.toNat) s
  else answer 7 .badArg (fun _ => blankPeer) s

/-- NOTICE_READ (R181): the head stays at the head until its response is complete. -/
def noticeRead (s : State) : State :=
  respond 8 .ok noticeReadBytes
    (some { carriesNotice := !s.cpc.notices.isEmpty, carriesOverflow := s.cpc.overflow }) s

/-- The last byte of a NOTICE_READ response has been clocked out: exactly what it carried is removed (R181). -/
def noticeComplete (s : State) : State :=
  s.onCpc fun c =>
    match c.transaction with
    | some t =>
      match t.noticeRead with
      | some n =>
        { c with
          notices := if n.carriesNotice then c.notices.tail else c.notices
          overflow := if n.carriesOverflow then false else c.overflow
          transaction := some { t with noticeRead := none } }
      | none => c
    | none => c

def statusRead (s : State) : State := answer 9 .ok statusBytes s

/-! ### Configuration (R182, R183) -/

def uncheck (s : State) : State := s.onCpc fun c => { c with checked := false }

def cfgWrite (item index : Byte) (value : BitVec 32) (s : State) : State :=
  if s.cpc.level ≠ .config then answer 10 .wrongLevel (fun _ => [0, 0, 0, 0]) s
  else
    match itemOf item.toNat with
    | none => answer 10 .badArg (fun _ => [0, 0, 0, 0]) (uncheck s)
    | some i =>
      if index.toNat < i.indices then
        let v := storedValue item.toNat i value.toNat
        answer 10 (if v = value.toNat then .ok else .clamped) (fun _ => bytesOf 4 v)
          (storeItem item.toNat index.toNat v (uncheck s))
      else answer 10 .badArg (fun _ => [0, 0, 0, 0]) (uncheck s)

def cfgCheck (s : State) : State :=
  if s.cpc.level ≠ .config then answer 11 .wrongLevel (fun _ => [0, 255]) s
  else
    match checkFailure s with
    | none => answer 11 .ok (fun _ => [0, 255]) (s.onCpc fun c => { c with checked := true })
    | some (order, named) => answer 11 .checkFailed (fun _ => byteOf order ++ codeOrBlank named) (uncheck s)

/-! ### Level commands (R184 to R187) -/

def startCommand (s : State) : State :=
  if s.cpc.level ≠ .config then reply 12 .wrongLevel s
  else if !s.cpc.checked then reply 12 .notChecked s
  else reply 12 .ok (finish (startLevel s))

def stopCommand (s : State) : State :=
  if s.cpc.level = .config then reply 13 .wrongLevel s else reply 13 .ok (finish (stopLevel s))

/-- ISOLATE taken in ISOLATED is answered OK and changes nothing (R185). -/
def isolateCommand (s : State) : State :=
  match s.cpc.level with
  | .config => reply 14 .wrongLevel s
  | .isolated => reply 14 .ok s
  | .run => reply 14 .ok (finish (isolateWith .host s))

def resumeCommand (s : State) : State :=
  if s.cpc.level = .isolated then reply 15 .ok (finish (resumeLevel s)) else reply 15 .wrongLevel s

/-- A command code the device does not know: BAD_ARG with the header alone (R179). A code it knows spells another
command (log 7). -/
def unknownCode (code : Byte) (s : State) : State :=
  if (commandLength code.toNat).isSome then s else reply code .badArg s

/-- The select is released after the bytes given (R178). An incomplete record is discarded and nothing acts; a
complete one has been taken by its own row, it stands as taken, and what was left of its response is lost. The
transaction ends either way, and a NOTICE_READ cut short removes nothing (R181). -/
def selectReleased (_bytes : List Byte) (s : State) : State := s.onCpc fun c => { c with transaction := none }

end Sys2Proof.Machine
end

