-- ==== Sys2Proof/Machine/Reports.lean ====
section
/-! DEFINITION. What the roster makes of STATUS, ENTRY and EXIT: entry of an EXPECTED vehicle (R82, R158), an owned
record's STATUS (R66), recovery (R69, R77), vehicles with no record and the pass list (R41, R84), exit (R80). -/

namespace Sys2Proof.Machine

/-- The owner a STATUS shows is another than the own station (R66). -/
def StatusView.foreign (r : StatusView) (s : State) : Bool := r.owner != some s.cfg.station

/-- The recovery test of R77: health GOOD, not laden, motion stopped, the own station as owner. -/
def StatusView.recovers (r : StatusView) (s : State) : Bool :=
  !r.healthBad && r.laden.isNone && r.motion == .stopped && !r.foreign s

/-! ### Entry (R82, R158) -/

/-- The call of a LENT record is no longer refusable once its vehicle is here or gone: its taken-call entry ends
(R126). -/
def endTakenOf (ref : InboundRef) (v : Nat) (s : State) : State :=
  match ref with
  | .lent id => endTaken id v s
  | .laden _ => s

/-- The new state of an entered record, by its kind and current job (R82). -/
def enterByKind (v : Nat) (r : Vehicle) (ref : InboundRef) (s : State) : State :=
  match ref, r.currentJob with
  | .lent _, some t => sendToPickup v t s
  | .lent _, none => becomeIdle v s
  | .laden _, some t =>
    let s := modifyJob t (fun j => { j with state := .carrying }) (modifyVehicle v (Vehicle.enter .laden) s)
    match findJob t s with
    | some j => wakeIfChain v (requestGoto v (dropPosition j s) s)
    | none => s
  | .laden _, none => modifyVehicle v (Vehicle.enter .laden) s

/-- An EXPECTED record's vehicle enters the bay, at the position given (R82). -/
def enterVehicle (v : Nat) (r : Vehicle) (i : Inbound) (position : Nat) (s : State) : State :=
  let s := requestCmd v .adopt s
  let s := modifyVehicle v (fun x =>
    { x with inbound := none, position := some position, lastStatus := some s.now }) s
  startQuietTimer (endTakenOf i.ref v (enterByKind v r i.ref s))

/-! ### STATUS (R66, R69, R77) -/

/-- Recovery of a FAULTED record (R77). -/
def recoverVehicle (v : Nat) (s : State) : State :=
  becomeIdle v (modifyVehicle v (fun x => { x with laden := none, faultReason := none }) s)

/-- A STATUS for an owned record, in the order of R66. -/
def statusOwned (v : Nat) (r : Vehicle) (t : StatusView) (s : State) : State :=
  let s := modifyVehicle v (fun x => { x with position := some t.position, lastStatus := some s.now }) s
  if r.ownerConfirmed && t.foreign s then faultOwner v t.owner s
  else
    let s := if t.healthBad then fault v .health s else s
    match findVehicle v s with
    | some x => if x.state = .faulted && t.recovers s then recoverVehicle v s else s
    | none => s

/-- A LOST record that reports within LostHold (R69): FAULTED or IDLE, with the laden field of the report. -/
def statusLost (v : Nat) (r : Vehicle) (t : StatusView) (s : State) : State :=
  let s := modifyVehicle v (fun x =>
    { x with
      position := some t.position
      lastStatus := some s.now
      laden := t.laden }) s
  let wasFaulted := (r.prior.map fun p => p.state == .faulted).getD false
  let abandoned := (r.prior.map (·.abandoned)).getD false
  if r.ownerConfirmed && t.foreign s then faultOwner v t.owner s
  else if t.healthBad then fault v .health s
  else if t.laden.isSome || abandoned || (wasFaulted && !t.recovers s) then fault v .lostRecovery s
  else becomeIdle v (modifyVehicle v (fun x => { x with prior := none, lostHold := none }) s)

/-! ### Vehicles the roster does not know (R84) -/

/-- PASS is transmitted at once and no slot records it (R92); the vehicle joins the pass list, at a full list in the
place of the entry with the oldest time (R84). -/
def passVehicle (v : Nat) (s : State) : State :=
  let e : PassEntry := { vehicle := v, sentAt := s.now }
  (transmit v .pass s).onVr fun t =>
    { t with
      passList :=
        if t.passList.length < Config.passSlots then t.passList ++ [e]
        else
          match least ((t.passList.map (·.sentAt)).zip (List.range t.passList.length)) with
          | some (_, i) => t.passList.set i e
          | none => [e] }

def onPassList (v : Nat) (s : State) : Bool := s.vr.passList.any fun e => e.vehicle == v

def leavePassList (v : Nat) (s : State) : State :=
  s.onVr fun t => { t with passList := t.passList.filter fun e => e.vehicle ≠ v }

/-- A job for a laden stray or rediscovered vehicle, where a record is free (R41). -/
def strayJob (v carrier : Nat) (s : State) : Option (Nat × State) :=
  if s.jt.jobs.length < Config.jobSlots then
    let t := provisionalTag s
    let fb := fallbackPort s
    let s := s.onJt fun j =>
      { j with
        jobs := j.jobs ++
          [{ tag := t, senderTag := none, carrier := carrier, cls := s.cfg.strayClass, mode := .single, rearm := false,
             count := 1, reload := 1, movesDone := 0, source := .arrival, dest := .here fb, originalDest := none,
             age := 0, callBarred := false, state := .carrying, holdReason := none, vehicle := some (v, .current),
             reservation := none, callLink := none, askSeq := none }] }
    some (t, tryReserve t fb s)
  else none

/-- A new record for a vehicle adopted from its report (R84). -/
def adoptRecord (v : Nat) (t : StatusView) (confirmed : Bool) (s : State) : State :=
  s.onVr fun x =>
    { x with
      records := x.records ++
        [{ vehicle := v, state := .idle, position := some t.position, laden := t.laden, ownerConfirmed := confirmed,
           target := none, currentJob := none, nextJob := none, parkSlot := none, idleSince := none,
           lastStatus := some s.now, faultReason := none, inbound := none, pledge := none, lend := none, prior := none,
           parkDeadline := none, lostHold := none }] }

/-- The state of an adopted record, from its report, and the tag of the job made for it, if any (R84). -/
def settleAdopted (v : Nat) (t : StatusView) (s : State) : State × Option Nat :=
  if t.healthBad then (fault v .health s, none)
  else
    match t.laden with
    | none => (becomeIdle v s, none)
    | some c =>
      match strayJob v c s with
      | some (tag, s) =>
        let s := modifyVehicle v (fun x => { x.enter .laden with currentJob := some tag }) s
        (wakeIfChain v (requestGoto v (getPort (fallbackPort s) s).position s), some tag)
      | none => (fault v .noJobSlot s, none)

/-- The first accepted STATUS of a vehicle that no record holds (R84): rediscovered, adopted as a stray, or refused
with PASS. -/
def statusUnknown (v : Nat) (t : StatusView) (s : State) : State :=
  if onPassList v s then s
  else if freeRecords s = 0 then post (.strayRefused v t.owner) (passVehicle v s)
  else if t.foreign s then
    let (s, tag) := settleAdopted v t (requestCmd v .adopt (adoptRecord v t false s))
    post (.stray v t.owner tag (t.laden.getD 0)) s
  else (settleAdopted v t (adoptRecord v t true s)).1

/-- An accepted STATUS, by the record of its vehicle (R66). -/
def statusAccepted (v : Nat) (t : StatusView) (s : State) : State :=
  match findVehicle v s with
  | none => statusUnknown v t s
  | some r =>
    match r.state, r.inbound with
    | .expected, some i =>
      let s := enterVehicle v r i t.position s
      if t.healthBad then fault v .health s else s
    | .expected, none => s
    | .lost, _ => statusLost v r t s
    | _, _ => statusOwned v r t s

/-- A STATUS report (R5, R66, R99): unusable ones are format errors of their vehicle, and in CONFIG the roster discards
the rest. -/
def statusReport (v : Half) (r : StatusReport) (s : State) : State :=
  if !vehicleInRange v.toNat then countFormFailure s
  else
    match r.view s.cfg.loopLength with
    | none => countFormatError v.toNat s
    | some t => if s.cpc.level = .config then s else statusAccepted v.toNat t s

/-- An ENTRY report (R82): the entry of an EXPECTED vehicle at position 0; any other is discarded (R84, R99). -/
def entryReport (v : Half) (s : State) : State :=
  if !vehicleInRange v.toNat then countFormFailure s
  else if s.cpc.level = .config then s
  else
    match findVehicle v.toNat s with
    | some r =>
      match r.state, r.inbound with
      | .expected, some i => enterVehicle v.toNat r i 0 s
      | _, _ => s
    | none => s

/-- An EXIT report (R80, R84): the exit of a HOLDING vehicle that was sent LEAVE; it also takes a vehicle off the pass
list. -/
def exitReport (v : Half) (s : State) : State :=
  if !vehicleInRange v.toNat then countFormFailure s
  else if s.cpc.level = .config then s
  else
    let s := leavePassList v.toNat s
    match findVehicle v.toNat s, findExit v.toNat s with
    | some r, some e => if r.state = .holding ∧ e.leaveSent then exitVehicle v.toNat s else s
    | _, _ => s

/-- A feeder-link record as received, whole (R99). A record that fails the form test counts against no vehicle, a
command kind counts against its vehicle, and a report that passes is handled as its kind says. -/
def feederBytes (bytes : List Byte) (s : State) : State :=
  match formTest bytes with
  | none => countFormFailure s
  | some (.command v) => countFormatError v.toNat s
  | some (.status v r) => statusReport v r s
  | some (.done v q r c) => doneReport v.toNat q r c.toNat s
  | some (.entry v) => entryReport v s
  | some (.exit v) => exitReport v s

/-! ### Expiries of the roster (R67, R69, R84, R86) -/

/-- A record under status supervision whose last accepted STATUS is StatusTimeout old (R67). -/
def Vehicle.silent (r : Vehicle) (s : State) : Bool :=
  r.state.owned && s.due (r.lastStatus.map (· + s.cfg.statusTimeout))

/-- StatusTimeout passes without an accepted STATUS (R67, R68). -/
def statusTimeout (v : Nat) (s : State) : State :=
  match findVehicle v s with
  | some r => if r.silent s then loseVehicle v s else s
  | none => s

/-- LostHold passes: the record is removed (R69). -/
def lostHoldEnd (v : Nat) (s : State) : State :=
  match findVehicle v s with
  | some r =>
    if r.state = .lost ∧ s.due r.lostHold then post (.vehicleLost v .lostHoldExpired) (removeVehicle v s) else s
  | none => s

/-- The free park slots, each with its forward distance from position p: a configured position and no occupant
(R114). -/
def freeParkSlots (p : Nat) (s : State) : List (Nat × Nat) :=
  (List.range Config.parkSlots).filterMap fun i =>
    match s.cfg.park.getD i none with
    | some q => if (parkOccupant i s).isNone then some (s.dist p q, i) else none
    | none => none

/-- ParkDelay passes for an IDLE record, which is offered for parking: the nearest free slot is taken, or the delay
starts again (R86, R114). -/
def parkDelayEnd (v : Nat) (s : State) : State :=
  match findVehicle v s with
  | some r =>
    if r.state = .idle ∧ r.isIdle ∧ s.due r.parkDeadline then
      match least (freeParkSlots r.pos s) with
      | some (_, i) =>
        requestGoto v ((s.cfg.park.getD i none).getD 0)
          (modifyVehicle v (fun x => { x.enter .parking with parkSlot := some i }) s)
      | none => modifyVehicle v (fun x => { x with parkDeadline := some (s.deadlineIn (s.cfg.parkDelay * 1000)) }) s
    else s
  | none => s

/-- 600000 ms have passed since PASS was sent (R84). -/
def passListEnd (v : Nat) (s : State) : State :=
  s.onVr fun t =>
    { t with passList := t.passList.filter fun e => !(e.vehicle == v && e.sentAt + Config.passHold ≤ s.now) }

end Sys2Proof.Machine
end

