-- ==== Sys2Proof/Machine/Timers.lean ====
section
/-! DEFINITION. The expiries of the deadlines that are not the roster's own (those stand in Moves.lean and
Reports.lean). An expiry whose deadline is absent or not yet reached has no effect (log 2). -/

namespace Sys2Proof.Machine

/-! ### Port Table and Job Table -/

/-- The wait of a job whose deadline has been reached (R57). -/
def dueWait (tag : Nat) (s : State) : Bool :=
  s.pt.toList.any fun q => q.waitList.any fun w => w.tag == tag && w.deadline ≤ s.now

/-- A source-port wait ends without ready (R29, R58). -/
def portWaitEnd (tag : Nat) (s : State) : State :=
  if dueWait tag s then
    let v := (findJob tag s).bind (·.vehicle)
    let s := jobToWaiting tag (some .sourceNotReady) (releaseReservation tag (endWait tag s))
    match v with
    | some (v, _) => releaseVehicle v s
    | none => s
  else s

/-- A job in a state that ages (R43). -/
def Job.ages (j : Job) : Bool := j.state == .waiting || j.state == .calling || j.state == .paused

/-- A job after the aging timer's expiry (R43). -/
def Job.aged (j : Job) : Job :=
  { j with
    age := if j.ages then min (j.age + 1) 255 else j.age
    callBarred := false
    holdReason := if j.state = .waiting ∧ j.holdReason = some .noLender then none else j.holdReason }

/-- The expiry wakes the Dispatcher where it raised a WAITING job's age, cleared a call barred field or removed a
NO_LENDER reason (R43). -/
def Job.wakesByAging (j : Job) : Bool :=
  (j.state == .waiting && (j.age < 255 || j.holdReason == some .noLender)) || j.callBarred

/-- The aging timer expires (R43). -/
def agingEnd (s : State) : State :=
  if s.due s.jt.agingDeadline then
    let woken := s.jt.jobs.any Job.wakesByAging
    let s := s.onJt fun t =>
      { t with
        jobs := t.jobs.map Job.aged
        agingDeadline := some (s.deadlineIn (s.cfg.agingInterval * 1000)) }
    if woken then wake s else s
  else s

/-! ### Call Unit -/

/-- The quiet timer expires (R128). -/
def quietEnd (s : State) : State :=
  if s.due s.cu.quietDeadline then s.onCu fun u => { u with quiet := true, quietDeadline := none } else s

def callInSlot (slot : Nat) (s : State) : Option OwnCall := s.cu.ownCalls.find? fun c => c.slot == slot

/-- The offer window of an OPEN call passes (R122 to R124). -/
def windowEnd (slot : Nat) (s : State) : State :=
  match callInSlot slot s with
  | none => s
  | some c =>
    if c.state = .openCall ∧ s.due c.windowDeadline then
      match c.best with
      | none => windowWithoutTake c s
      | some o =>
        match takeStep c o s with
        | some s => s
        | none =>
          windowWithoutTake { c with best := none }
            (closeAll c.id (modifyOwnCall c.slot (fun x => { x with best := none }) s))
    else s

/-- The retry deadline of a call passes (R124). -/
def callRetryEnd (slot : Nat) (s : State) : State :=
  match callInSlot slot s with
  | some c => if c.state = .retryWait ∧ s.due c.retryDeadline then retryCall c s else s
  | none => s

/-- The reclaim deadline passes: the entries without a pledge are served in the queue order formed now, and the round
closes (R133). -/
def reclaimEnd (s : State) : State :=
  if s.due s.cu.reclaimDeadline then
    serveRound ((incomingOrder s).filter fun e => e.pledge.isNone) (s.onCu fun u => { u with reclaimDeadline := none })
  else s

/-- A pledge's hold deadline passes: its entry leaves the queue and its vehicle returns to IDLE (R134, R135). -/
def pledgeHoldEnd (v : Nat) (s : State) : State :=
  match findVehicle v s with
  | some r =>
    match r.pledge with
    | some p => if r.state = .pledged ∧ p.holdDeadline ≤ s.now then endIncoming p.call s else s
    | none => s
  | none => s

/-- OfferWindow passes from the heard at of an entry without a pledge (R131). -/
def callEntryEnd (id : CallId) (s : State) : State :=
  match findIncoming id s with
  | some e => if e.pledge = none ∧ e.heardAt + s.cfg.offerWindow ≤ s.now then endIncoming id s else s
  | none => s

/-! ### Handover Unit -/

/-- The retry deadline of an entry in ASKING or DEFERRED passes (R144). -/
def askRetryEnd (tag : Nat) (s : State) : State :=
  match findAsk tag s with
  | some e => if (e.state = .asking ∨ e.state = .deferred) ∧ s.due e.retryDeadline then askOrHold e s else s
  | none => s

/-- The admit deadline of an entry that is not GRANTED passes (R146). -/
def admitWaitEnd (tag : Nat) (s : State) : State :=
  match findAsk tag s with
  | some e => if e.state ≠ .granted ∧ s.due e.admitDeadline then redirect tag .admitTimeout s else s
  | none => s

/-- The EXPECTED record of a vehicle, with its inbound part, where the part's deadline has been reached. -/
def dueInbound (v : Nat) (s : State) : Option (Vehicle × Inbound) :=
  match findVehicle v s with
  | some r =>
    match r.inbound with
    | some i => if r.state = .expected ∧ i.deadline ≤ s.now then some (r, i) else none
    | none => none
  | none => none

/-- The sender tag of the job a record names (R21). -/
def senderTagOfRecord (r : Vehicle) (s : State) : Option Nat := r.currentJob.bind fun t => senderTagOf t s

/-- An IN_TRANSIT record's deadline passes: OVERDUE (R156). -/
def transitEnd (v : Nat) (s : State) : State :=
  match dueInbound v s with
  | some (r, i) =>
    if i.phase = .inTransit then
      post (.inboundOverdue v i.station r.currentJob (senderTagOfRecord r s))
        (modifyVehicle v (fun x =>
          { x with
            inbound := some { i with phase := .overdue, deadline := s.deadlineIn (s.cfg.transitLimit * 1000) } }) s)
    else s
  | none => s

/-- The deadline of a record in AWAIT_HANDOFF or OVERDUE passes (R83, R157). -/
def inboundEnd (v : Nat) (s : State) : State :=
  match dueInbound v s with
  | some (r, i) =>
    if i.phase = .inTransit then s
    else
      let s := removeVehicle v (post (.inboundLost v i.station r.currentJob (senderTagOfRecord r s)) s)
      let s := match r.currentJob with
        | some t => settleRemoved i.ref t s
        | none => s
      endTakenOf i.ref v s
  | none => s

/-! ### Peer Bus Controller -/

/-- One entry at a beacon expiry: a LIVE entry loses 1 freshness, and at 0 it becomes STALE (R174). -/
def Peer.fade (p : Peer) : Peer :=
  if p.state = .live then
    { p with freshness := p.freshness - 1, state := if p.freshness ≤ 1 then .stale else .live }
  else p

/-- The stations whose entry goes STALE at this expiry (R174). -/
def fadingPeers (s : State) : List Nat :=
  (List.range Config.stationCount).filter fun st =>
    (getPeer st s).state == .live && (getPeer st s).freshness ≤ 1

/-- Entries that went STALE wake the Dispatcher and have the HELD entries for their stations tested again (R143,
R174). -/
def reportStale (stale : List Nat) (s : State) : State :=
  if stale.isEmpty then s else stale.foldl (fun s st => retestHeld st s) (wake s)

/-- The beacon timer expires (R173, R174). -/
def beaconEnd (s : State) : State :=
  if s.due s.pbc.beaconDeadline then
    let stale := fadingPeers s
    let s := s.onPbc fun b =>
      { b with
        peers := b.peers.map Peer.fade
        beaconDeadline := some (s.deadlineIn s.cfg.beaconPeriod) }
    let s := reportStale stale s
    if s.cpc.level = .run then requestBeacon s else s
  else s

/-- The silence timer expires (R172). -/
def silenceEnd (s : State) : State :=
  if s.pbc.silenceDeadline ≤ s.now then
    if s.pbc.standbyHeard ∧ !aboveThreshold s.pbc.observed.other s then switchLine .silence s else restartSilence s
  else s

end Sys2Proof.Machine
end

