-- ==== Sys2Proof/Machine/HostFamily.lean ====
section
/-! DEFINITION. The meanings of the host's commands and of the pins (R178 to R189): one definition per row of the table.
While RESETN is low no command is taken (R188). -/

namespace Sys2Proof.Machine

/-- A step taken while the device is not held in reset; in reset nothing is taken (R188). -/
def whenReleased (f : State → State) (s : State) : Host.Outcome State Fault Refusal := .next (if s.held then s else f s)

/-- SUBMIT (R22, R23). -/
def execSubmit (r : SubmitRecord) (s : State) : Host.Outcome State Fault Refusal := whenReleased (submit r) s

/-- CANCEL (R44, R45). -/
def execCancel (tag : Half) (s : State) : Host.Outcome State Fault Refusal := whenReleased (cancel tag) s

/-- PORT_SET (R55, R56). -/
def execPortSet (port ready occupied : Byte) (s : State) : Host.Outcome State Fault Refusal :=
  whenReleased (portSet port ready occupied) s

/-- VEHICLE_REMOVE (R77). -/
def execVehicleRemove (v : Half) (s : State) : Host.Outcome State Fault Refusal := whenReleased (vehicleRemove v) s

/-- JOB_READ (R49). -/
def execJobRead (tag : Half) (s : State) : Host.Outcome State Fault Refusal := whenReleased (jobRead tag) s

/-- VEHICLE_READ (R87). -/
def execVehicleRead (v : Half) (s : State) : Host.Outcome State Fault Refusal := whenReleased (vehicleRead v) s

/-- PEER_READ (R177). -/
def execPeerRead (st : Byte) (s : State) : Host.Outcome State Fault Refusal := whenReleased (peerRead st) s

/-- NOTICE_READ (R181). -/
def execNoticeRead (s : State) : Host.Outcome State Fault Refusal := whenReleased noticeRead s

/-- NOTICE_RESPONSE_COMPLETE (R181). -/
def execNoticeResponseComplete (s : State) : Host.Outcome State Fault Refusal := whenReleased noticeComplete s

/-- STATUS_READ (R189). -/
def execStatusRead (s : State) : Host.Outcome State Fault Refusal := whenReleased statusRead s

/-- CFG_WRITE (R182). -/
def execCfgWrite (item index : Byte) (value : BitVec 32) (s : State) : Host.Outcome State Fault Refusal :=
  whenReleased (cfgWrite item index value) s

/-- CFG_CHECK (R183). -/
def execCfgCheck (s : State) : Host.Outcome State Fault Refusal := whenReleased cfgCheck s

/-- START (R184). -/
def execStart (s : State) : Host.Outcome State Fault Refusal := whenReleased startCommand s

/-- ISOLATE (R185). -/
def execIsolate (s : State) : Host.Outcome State Fault Refusal := whenReleased isolateCommand s

/-- RESUME (R186). -/
def execResume (s : State) : Host.Outcome State Fault Refusal := whenReleased resumeCommand s

/-- STOP (R187). -/
def execStop (s : State) : Host.Outcome State Fault Refusal := whenReleased stopCommand s

/-- UNKNOWN_COMMAND_CODE (R179). -/
def execUnknownCommandCode (code : Byte) (s : State) : Host.Outcome State Fault Refusal :=
  whenReleased (unknownCode code) s

/-- SELECT_RELEASED_EARLY (R178). -/
def execSelectReleasedEarly (bytes : List Byte) (s : State) : Host.Outcome State Fault Refusal :=
  whenReleased (selectReleased bytes) s

/-- RESET_ASSERTED (R188). -/
def execResetAsserted (s : State) : Host.Outcome State Fault Refusal := .next (holdReset s)

/-- RESET_RELEASED (R188). -/
def execResetReleased (s : State) : Host.Outcome State Fault Refusal := .next (releaseReset s)

/-- POWER_UP: a reset that is released once supply and clock are stable (R188). DESIGN CHOICE (log 61): the device
leaves reset whatever it knew of the RESETN pin before. -/
def execPowerUp (s : State) : Host.Outcome State Fault Refusal := .next (releaseReset s)

end Sys2Proof.Machine
end

