-- ==== Sys2Proof/Machine/FeederFamily.lean ====
section
/-! DEFINITION. The meanings of the feeder link's reports (chapter 5): one definition per row of the table. -/

namespace Sys2Proof.Machine

/-- STATUS (R5, R66). -/
def execStatus (v : Half) (r : StatusReport) (s : State) : Host.Outcome State Fault Refusal :=
  whenReleased (fun s => finish (statusReport v r s)) s

/-- DONE (R95). A vehicle number out of range fails the form test (R192). -/
def execDone (v : Half) (seq : BitVec 4) (result : Byte) (carrier : Triple) (s : State) :
    Host.Outcome State Fault Refusal :=
  whenReleased (fun s =>
    finish (if vehicleInRange v.toNat then doneReport v.toNat seq result carrier.toNat s else countFormFailure s)) s

/-- ENTRY (R82). -/
def execEntry (v : Half) (s : State) : Host.Outcome State Fault Refusal :=
  whenReleased (fun s => finish (entryReport v s)) s

/-- EXIT (R80). -/
def execExit (v : Half) (s : State) : Host.Outcome State Fault Refusal :=
  whenReleased (fun s => finish (exitReport v s)) s

/-- FEEDER_RECORD_REJECTED (R99, R192). -/
def execFeederRecordRejected (bytes : List Byte) (s : State) : Host.Outcome State Fault Refusal :=
  whenReleased (fun s => finish (feederBytes bytes s)) s

end Sys2Proof.Machine
end

