-- ==== Sys2Proof/Machine/DeadlineFamily.lean ====
section
/-! DEFINITION. The meanings of the expiries and of the Dispatcher's decision: one definition per row of the table. Each
has its effect where its deadline has been reached (log 2). -/

namespace Sys2Proof.Machine

/-- COMMAND_TIME_LIMIT_EXPIRY (R97). -/
def execCommandTimeLimitExpiry (v : VehicleNo) (s : State) : Host.Outcome State Fault Refusal :=
  whenReleased (fun s => finish (limitExpiry v.toNat s)) s

/-- STATUS_TIMEOUT_EXPIRY (R67, R68). -/
def execStatusTimeoutExpiry (v : VehicleNo) (s : State) : Host.Outcome State Fault Refusal :=
  whenReleased (fun s => finish (statusTimeout v.toNat s)) s

/-- LOST_HOLD_EXPIRY (R69). -/
def execLostHoldExpiry (v : VehicleNo) (s : State) : Host.Outcome State Fault Refusal :=
  whenReleased (fun s => finish (lostHoldEnd v.toNat s)) s

/-- PARK_DELAY_EXPIRY (R86, R114). -/
def execParkDelayExpiry (v : VehicleNo) (s : State) : Host.Outcome State Fault Refusal :=
  whenReleased (fun s => finish (parkDelayEnd v.toNat s)) s

/-- PASS_LIST_EXPIRY (R84). -/
def execPassListExpiry (v : VehicleNo) (s : State) : Host.Outcome State Fault Refusal :=
  whenReleased (fun s => finish (passListEnd v.toNat s)) s

/-- PORT_WAIT_EXPIRY (R29, R58). -/
def execPortWaitExpiry (tag : Half) (s : State) : Host.Outcome State Fault Refusal :=
  whenReleased (fun s => finish (portWaitEnd tag.toNat s)) s

/-- AGING_TIMER_EXPIRY (R43). -/
def execAgingTimerExpiry (s : State) : Host.Outcome State Fault Refusal := whenReleased (fun s => finish (agingEnd s)) s

/-- DISPATCH_DECISION (R101). -/
def execDispatchDecision (s : State) : Host.Outcome State Fault Refusal :=
  whenReleased (fun s => finish (dispatchDecision s)) s

/-- QUIET_TIMER_EXPIRY (R128). -/
def execQuietTimerExpiry (s : State) : Host.Outcome State Fault Refusal := whenReleased (fun s => finish (quietEnd s)) s

/-- OFFER_WINDOW_END (R122). -/
def execOfferWindowEnd (slot : BitVec 2) (s : State) : Host.Outcome State Fault Refusal :=
  whenReleased (fun s => finish (windowEnd slot.toNat s)) s

/-- CALL_RETRY_EXPIRY (R124). -/
def execCallRetryExpiry (slot : BitVec 2) (s : State) : Host.Outcome State Fault Refusal :=
  whenReleased (fun s => finish (callRetryEnd slot.toNat s)) s

/-- RECLAIM_WINDOW_END (R133). -/
def execReclaimWindowEnd (s : State) : Host.Outcome State Fault Refusal :=
  whenReleased (fun s => finish (reclaimEnd s)) s

/-- PLEDGE_HOLD_EXPIRY (R135). -/
def execPledgeHoldExpiry (v : VehicleNo) (s : State) : Host.Outcome State Fault Refusal :=
  whenReleased (fun s => finish (pledgeHoldEnd v.toNat s)) s

/-- CALL_ENTRY_EXPIRY (R131). -/
def execCallEntryExpiry (id : CallId) (s : State) : Host.Outcome State Fault Refusal :=
  whenReleased (fun s => finish (callEntryEnd id s)) s

/-- ASK_RETRY_EXPIRY (R144). -/
def execAskRetryExpiry (tag : Half) (s : State) : Host.Outcome State Fault Refusal :=
  whenReleased (fun s => finish (askRetryEnd tag.toNat s)) s

/-- ADMIT_WAIT_EXPIRY (R146). -/
def execAdmitWaitExpiry (tag : Half) (s : State) : Host.Outcome State Fault Refusal :=
  whenReleased (fun s => finish (admitWaitEnd tag.toNat s)) s

/-- TRANSIT_LIMIT_EXPIRY (R156). -/
def execTransitLimitExpiry (v : VehicleNo) (s : State) : Host.Outcome State Fault Refusal :=
  whenReleased (fun s => finish (transitEnd v.toNat s)) s

/-- INBOUND_DEADLINE_EXPIRY (R157). -/
def execInboundDeadlineExpiry (v : VehicleNo) (s : State) : Host.Outcome State Fault Refusal :=
  whenReleased (fun s => finish (inboundEnd v.toNat s)) s

/-- BEACON_TIMER_EXPIRY (R173). -/
def execBeaconTimerExpiry (s : State) : Host.Outcome State Fault Refusal :=
  whenReleased (fun s => finish (beaconEnd s)) s

/-- SILENCE_TIMER_EXPIRY (R172). -/
def execSilenceTimerExpiry (s : State) : Host.Outcome State Fault Refusal :=
  whenReleased (fun s => finish (silenceEnd s)) s

end Sys2Proof.Machine
end

