-- ==== Sys2Proof/Machine/BusFamily.lean ====
section
/-! DEFINITION. The meanings of the peer bus's rows (chapter 9): own transmissions, frames that are bad, on the standby
line, duplicate or not accepted, and the eleven kinds of frame heard on the observed line. One definition per row of the
table. A frame of any kind is taken by the checks of R167 as it stands: one that bears the own number goes by R168,
and one whose target does not name this station is not delivered (R169). -/

namespace Sys2Proof.Machine

/-- TRANSMISSION_ATTEMPT (R165): the observed line is idle (log 8). -/
def execTransmissionAttempt (s : State) : Host.Outcome State Fault Refusal :=
  whenReleased (fun s => finish (beginAttempt s)) s

/-- CONTENTION_LOST (R165). -/
def execContentionLost (s : State) : Host.Outcome State Fault Refusal :=
  whenReleased (fun s => finish (loseContention s)) s

/-- TRANSMISSION_END, with the bytes of the echo, if a frame was heard (R166). -/
def execTransmissionEnd (echo : Option (List Byte)) (s : State) : Host.Outcome State Fault Refusal :=
  whenReleased (fun s => finish (endTransmission echo s)) s

/-- BAD_FRAME (R167, R191). -/
def execBadFrame (l : Line) (bytes : List Byte) (s : State) : Host.Outcome State Fault Refusal :=
  whenReleased (fun s => finish (frameBytes l bytes s)) s

/-- STANDBY_FRAME (R167). -/
def execStandbyFrame (s : State) : Host.Outcome State Fault Refusal :=
  whenReleased (fun s => finish (countGood s.pbc.observed.other s)) s

/-- DUPLICATE_STATION_FRAME (R168). -/
def execDuplicateStationFrame (s : State) : Host.Outcome State Fault Refusal :=
  whenReleased (fun s => finish (ownNumberFrame s)) s

/-- UNACCEPTED_FRAME (R169); a frame whose target names this station is no such frame (log 7). -/
def execUnacceptedFrame (h : FrameHead) (s : State) : Host.Outcome State Fault Refusal :=
  whenReleased (fun s => if accepted h.target s then s else finish (observedFrame h none s)) s

/-- CALL (R130). -/
def execCall (h : FrameHead) (id : CallId) (cls : BitVec 3) (u : Half) (s : State) :
    Host.Outcome State Fault Refusal :=
  whenReleased (fun s => finish (observedFrame h (some (.call id cls u)) s)) s

/-- OFFER (R120). -/
def execOffer (h : FrameHead) (id : CallId) (v eta : Half) (s : State) : Host.Outcome State Fault Refusal :=
  whenReleased (fun s => finish (observedFrame h (some (.offer id v eta)) s)) s

/-- TAKE (R136). -/
def execTake (h : FrameHead) (id : CallId) (st : Byte) (v : Half) (s : State) : Host.Outcome State Fault Refusal :=
  whenReleased (fun s => finish (observedFrame h (some (.take id st v)) s)) s

/-- CLOSE (R137). -/
def execClose (h : FrameHead) (id : CallId) (s : State) : Host.Outcome State Fault Refusal :=
  whenReleased (fun s => finish (observedFrame h (some (.close id)) s)) s

/-- REFUSE (R126). -/
def execRefuse (h : FrameHead) (id : CallId) (v : Half) (s : State) : Host.Outcome State Fault Refusal :=
  whenReleased (fun s => finish (observedFrame h (some (.refuse id v)) s)) s

/-- ASK (R152). -/
def execAsk (h : FrameHead) (q : Byte) (v : Half) (carrier : Triple) (cls : BitVec 3) (age port : Byte) (s : State) :
    Host.Outcome State Fault Refusal :=
  whenReleased (fun s => finish (observedFrame h (some (.ask q v carrier cls age port)) s)) s

/-- GRANT (R145). -/
def execGrant (h : FrameHead) (q : Byte) (v : Half) (s : State) : Host.Outcome State Fault Refusal :=
  whenReleased (fun s => finish (observedFrame h (some (.grant q v)) s)) s

/-- DEFER (R145). -/
def execDefer (h : FrameHead) (q reason : Byte) (retryAfter : Half) (s : State) : Host.Outcome State Fault Refusal :=
  whenReleased (fun s => finish (observedFrame h (some (.defer q reason retryAfter)) s)) s

/-- DENY (R145). -/
def execDeny (h : FrameHead) (q reason : Byte) (s : State) : Host.Outcome State Fault Refusal :=
  whenReleased (fun s => finish (observedFrame h (some (.deny q reason)) s)) s

/-- The payload of a HANDOFF by its kind (11.2). -/
def handoffPayload (v : Half) : HandoffBody → Payload
  | .lent id => .handoffLent v id
  | .laden q t k c a m p d => .handoffLaden v q t k c a m p d

/-- HANDOFF (R155). -/
def execHandoff (h : FrameHead) (v : Half) (body : HandoffBody) (s : State) : Host.Outcome State Fault Refusal :=
  whenReleased (fun s => finish (observedFrame h (some (handoffPayload v body)) s)) s

/-- BEACON (R175). -/
def execBeacon (h : FrameHead) (spare records slots waiting quiet : Byte) (s : State) :
    Host.Outcome State Fault Refusal :=
  whenReleased (fun s => finish (observedFrame h (some (.beacon spare records slots waiting quiet)) s)) s

end Sys2Proof.Machine
end

