-- ==== Sys2Proof/Machine/Timebase.lean ====
section
/-! DEFINITION. The device's own clock: the commands whose deadlines have been reached, in the order of the table
(logs 1 and 3), and the passing of one millisecond. -/

namespace Sys2Proof.Machine

/-- A command in flight, or a queued HALT, has reached its limit (R97). -/
def limitDue (x : Context) (s : State) : Bool :=
  match x.inFlight with
  | none => false
  | some i =>
    i.deadline ≤ s.now ||
      match x.queued with
      | some (.haltSent _ d) => d ≤ s.now
      | _ => false

def vehicleNo (v : Nat) : VehicleNo := BitVec.ofNat 10 v

/-- The expiries of the roster and the feeder link that are due. -/
def dueVehicles (s : State) : List Instr :=
  List.flatten
    [(s.flc.contexts.filter fun x => limitDue x s).map fun x => Instr.commandTimeLimitExpiry (vehicleNo x.vehicle),
     (s.vr.records.filter fun r => r.silent s).map fun r => Instr.statusTimeoutExpiry (vehicleNo r.vehicle),
     (s.vr.records.filter fun r => r.state == .lost && s.due r.lostHold).map fun r =>
       Instr.lostHoldExpiry (vehicleNo r.vehicle),
     (s.vr.records.filter fun r => r.state == .idle && s.due r.parkDeadline).map fun r =>
       Instr.parkDelayExpiry (vehicleNo r.vehicle),
     (s.vr.passList.filter fun e => e.sentAt + Config.passHold ≤ s.now).map fun e =>
       Instr.passListExpiry (vehicleNo e.vehicle)]

/-- A command that is due exactly when the test holds. -/
def dueOne (test : Bool) (c : Instr) : List Instr := if test then [c] else []

/-- The waits at the ports that are due. -/
def dueWaits (s : State) : List Instr :=
  ((s.pt.toList.flatMap Port.waitList).filter fun w => w.deadline ≤ s.now).map fun w =>
    Instr.portWaitExpiry (BitVec.ofNat 16 w.tag)

/-- The expiries of the Port Table, the Job Table, the Dispatcher and the Call Unit that are due. -/
def dueCalls (s : State) : List Instr :=
  List.flatten
    [dueWaits s,
     dueOne (s.due s.jt.agingDeadline) .agingTimerExpiry,
     dueOne (s.decisionPending && s.cpc.level != .config) .dispatchDecision,
     dueOne (s.due s.cu.quietDeadline) .quietTimerExpiry,
     (s.cu.ownCalls.filter fun c => s.due c.windowDeadline).map fun c => Instr.offerWindowEnd (BitVec.ofNat 2 c.slot),
     (s.cu.ownCalls.filter fun c => s.due c.retryDeadline).map fun c => Instr.callRetryExpiry (BitVec.ofNat 2 c.slot),
     dueOne (s.due s.cu.reclaimDeadline) .reclaimWindowEnd,
     (s.vr.records.filter fun r => s.due (r.pledge.map Pledge.holdDeadline)).map fun r =>
       Instr.pledgeHoldExpiry (vehicleNo r.vehicle),
     (s.cu.incoming.filter fun e => e.pledge.isNone && e.heardAt + s.cfg.offerWindow ≤ s.now).map fun e =>
       Instr.callEntryExpiry e.id]

/-- The inbound deadlines that are due, of records in the phases given. -/
def dueInbounds (inTransit : Bool) (s : State) : List Nat :=
  (s.vr.records.filter fun r => r.inbound.any fun i => (i.phase == .inTransit) == inTransit && i.deadline ≤ s.now).map
    Vehicle.vehicle

/-- The expiries of the Handover Unit and the Peer Bus Controller that are due. -/
def dueHandover (s : State) : List Instr :=
  List.flatten
    [(s.hu.askList.filter fun e => s.due e.retryDeadline).map fun e => Instr.askRetryExpiry (BitVec.ofNat 16 e.tag),
     (s.hu.askList.filter fun e => s.due e.admitDeadline).map fun e => Instr.admitWaitExpiry (BitVec.ofNat 16 e.tag),
     (dueInbounds true s).map fun v => Instr.transitLimitExpiry (vehicleNo v),
     (dueInbounds false s).map fun v => Instr.inboundDeadlineExpiry (vehicleNo v),
     dueOne (s.due s.pbc.beaconDeadline) .beaconTimerExpiry,
     dueOne (s.pbc.silenceDeadline ≤ s.now) .silenceTimerExpiry]

/-- Every command of the device's own that is due, in the order of the table. -/
def dueCommands (s : State) : List Instr := dueVehicles s ++ dueCalls s ++ dueHandover s

/-- One millisecond passes: the commands then due are put into the queue, which is empty (log 1). In reset no time
passes (R188). -/
def tick (s : State) : State :=
  if s.held then s
  else
    let s := { s with now := s.now + 1 }
    { s with pending := dueCommands s }

end Sys2Proof.Machine
end

