-- ==== Sys2Proof/Machine/Dispatch.lean ====
section
/-! DEFINITION. One arm per constructor of `Instr`, each a direct call of its meaning. -/

namespace Sys2Proof.Machine

def exec (i : Instr) (s : State) : Host.Outcome State Fault Refusal :=
  match i with
  | .submit r => Sys2Proof.Machine.execSubmit r s
  | .cancel tag => Sys2Proof.Machine.execCancel tag s
  | .portSet port ready occupied => Sys2Proof.Machine.execPortSet port ready occupied s
  | .vehicleRemove vehicle => Sys2Proof.Machine.execVehicleRemove vehicle s
  | .jobRead tag => Sys2Proof.Machine.execJobRead tag s
  | .vehicleRead vehicle => Sys2Proof.Machine.execVehicleRead vehicle s
  | .peerRead station => Sys2Proof.Machine.execPeerRead station s
  | .noticeRead => Sys2Proof.Machine.execNoticeRead s
  | .noticeResponseComplete => Sys2Proof.Machine.execNoticeResponseComplete s
  | .statusRead => Sys2Proof.Machine.execStatusRead s
  | .cfgWrite item index value => Sys2Proof.Machine.execCfgWrite item index value s
  | .cfgCheck => Sys2Proof.Machine.execCfgCheck s
  | .start => Sys2Proof.Machine.execStart s
  | .isolate => Sys2Proof.Machine.execIsolate s
  | .resume => Sys2Proof.Machine.execResume s
  | .stop => Sys2Proof.Machine.execStop s
  | .unknownCommandCode code => Sys2Proof.Machine.execUnknownCommandCode code s
  | .selectReleasedEarly bytes => Sys2Proof.Machine.execSelectReleasedEarly bytes s
  | .resetAsserted => Sys2Proof.Machine.execResetAsserted s
  | .resetReleased => Sys2Proof.Machine.execResetReleased s
  | .powerUp => Sys2Proof.Machine.execPowerUp s
  | .status vehicle r => Sys2Proof.Machine.execStatus vehicle r s
  | .done vehicle seq result carrier => Sys2Proof.Machine.execDone vehicle seq result carrier s
  | .entry vehicle => Sys2Proof.Machine.execEntry vehicle s
  | .exit vehicle => Sys2Proof.Machine.execExit vehicle s
  | .feederRecordRejected bytes => Sys2Proof.Machine.execFeederRecordRejected bytes s
  | .commandTimeLimitExpiry vehicle => Sys2Proof.Machine.execCommandTimeLimitExpiry vehicle s
  | .statusTimeoutExpiry vehicle => Sys2Proof.Machine.execStatusTimeoutExpiry vehicle s
  | .lostHoldExpiry vehicle => Sys2Proof.Machine.execLostHoldExpiry vehicle s
  | .parkDelayExpiry vehicle => Sys2Proof.Machine.execParkDelayExpiry vehicle s
  | .passListExpiry vehicle => Sys2Proof.Machine.execPassListExpiry vehicle s
  | .portWaitExpiry tag => Sys2Proof.Machine.execPortWaitExpiry tag s
  | .agingTimerExpiry => Sys2Proof.Machine.execAgingTimerExpiry s
  | .dispatchDecision => Sys2Proof.Machine.execDispatchDecision s
  | .quietTimerExpiry => Sys2Proof.Machine.execQuietTimerExpiry s
  | .offerWindowEnd slot => Sys2Proof.Machine.execOfferWindowEnd slot s
  | .callRetryExpiry slot => Sys2Proof.Machine.execCallRetryExpiry slot s
  | .reclaimWindowEnd => Sys2Proof.Machine.execReclaimWindowEnd s
  | .pledgeHoldExpiry vehicle => Sys2Proof.Machine.execPledgeHoldExpiry vehicle s
  | .callEntryExpiry call => Sys2Proof.Machine.execCallEntryExpiry call s
  | .askRetryExpiry tag => Sys2Proof.Machine.execAskRetryExpiry tag s
  | .admitWaitExpiry tag => Sys2Proof.Machine.execAdmitWaitExpiry tag s
  | .transitLimitExpiry vehicle => Sys2Proof.Machine.execTransitLimitExpiry vehicle s
  | .inboundDeadlineExpiry vehicle => Sys2Proof.Machine.execInboundDeadlineExpiry vehicle s
  | .beaconTimerExpiry => Sys2Proof.Machine.execBeaconTimerExpiry s
  | .silenceTimerExpiry => Sys2Proof.Machine.execSilenceTimerExpiry s
  | .transmissionAttempt => Sys2Proof.Machine.execTransmissionAttempt s
  | .contentionLost => Sys2Proof.Machine.execContentionLost s
  | .transmissionEnd echo => Sys2Proof.Machine.execTransmissionEnd echo s
  | .badFrame line bytes => Sys2Proof.Machine.execBadFrame line bytes s
  | .standbyFrame => Sys2Proof.Machine.execStandbyFrame s
  | .duplicateStationFrame => Sys2Proof.Machine.execDuplicateStationFrame s
  | .unacceptedFrame h => Sys2Proof.Machine.execUnacceptedFrame h s
  | .call h call cls urgency => Sys2Proof.Machine.execCall h call cls urgency s
  | .offer h call vehicle eta => Sys2Proof.Machine.execOffer h call vehicle eta s
  | .take h call station vehicle => Sys2Proof.Machine.execTake h call station vehicle s
  | .close h call => Sys2Proof.Machine.execClose h call s
  | .refuse h call vehicle => Sys2Proof.Machine.execRefuse h call vehicle s
  | .ask h askSeq vehicle carrier cls age port => Sys2Proof.Machine.execAsk h askSeq vehicle carrier cls age port s
  | .grant h askSeq vehicle => Sys2Proof.Machine.execGrant h askSeq vehicle s
  | .defer h askSeq reason retryAfter => Sys2Proof.Machine.execDefer h askSeq reason retryAfter s
  | .deny h askSeq reason => Sys2Proof.Machine.execDeny h askSeq reason s
  | .handoff h vehicle body => Sys2Proof.Machine.execHandoff h vehicle body s
  | .beacon h spare freeRecords freeJobSlots waitingJobs quiet => Sys2Proof.Machine.execBeacon h spare freeRecords freeJobSlots waitingJobs quiet s

end Sys2Proof.Machine
end

