-- ==== Sys2Proof/Safety.lean ====
section
/-! DEFINITION. The terms in which claims about the block are stated: which blocks a step touches, a state with notices
joined to its queue or with a response formed, the tests of R22, what a taken offer leaves behind (R122), the state
after a vehicle fails (R76), how a command in flight ends (R75, R92), which commands are due (R17), what a
decision makes of the jobs it examines (R102 to R111), the store read back item by item (R182), and the invariants that
every step keeps. -/

namespace Sys2Proof

/-- The commands of the reset pin and the supply. -/
def Instr.isReset : Instr → Bool
  | .resetAsserted | .resetReleased | .powerUp => true
  | _ => false

/-- CFG_WRITE, the one command that writes the configuration store (R182). -/
def Instr.isCfgWrite : Instr → Bool
  | .cfgWrite .. => true
  | _ => false

/-- The commands at which RUN may become ISOLATED (R185): ISOLATE, and the bus events that can bring a duplicate station
or the last transmit failure to light. -/
def Instr.mayIsolate : Instr → Bool
  | .isolate | .transmissionEnd _ | .badFrame .. | .duplicateStationFrame | .unacceptedFrame _ | .call .. | .offer ..
  | .take .. | .close .. | .refuse .. | .ask .. | .grant .. | .defer .. | .deny .. | .handoff .. | .beacon .. => true
  | _ => false

end Sys2Proof

namespace Sys2Proof.Machine

/-! ### Frames -/

/-- The blocks of the block diagram, with the configuration store apart (00_scope.md). -/
inductive Block where
  | cfg | cpc | jt | pt | vr | flc | dsp | cu | hu | pbc
  deriving DecidableEq, Repr

/-- A block holds the same in both states. -/
def SameBlock (s t : State) : Block → Prop
  | .cfg => t.cfg = s.cfg
  | .cpc => t.cpc = s.cpc
  | .jt => t.jt = s.jt
  | .pt => t.pt = s.pt
  | .vr => t.vr = s.vr
  | .flc => t.flc = s.flc
  | .dsp => t.decisionPending = s.decisionPending
  | .cu => t.cu = s.cu
  | .hu => t.hu = s.hu
  | .pbc => t.pbc = s.pbc

/-- Between the two states nothing differs but, at most, the blocks listed: not the reset pin, the clock, the queue of
commands or any other block. -/
def OnlyTouches (touched : List Block) (s t : State) : Prop :=
  t.held = s.held ∧ t.now = s.now ∧ t.pending = s.pending ∧ ∀ b : Block, b ∉ touched → SameBlock s t b

/-- Beside the vehicles, jobs and ports listed nothing of a record differs: every other vehicle has the same roster
record and the same commands, but for the head of the exit queue, which may have been sent LEAVE (R149); every other
job has the same record and the same ask list entry; no port changes its readiness, and no other port its occupied
count. -/
def OthersKept (vehicles tags ports : List Nat) (s t : State) : Prop :=
  (∀ u, u ∉ vehicles → findVehicle u t = findVehicle u s ∧
    (findContext u t = findContext u s ∨ t.hu.exitQueue.head?.map ExitEntry.vehicle = some u)) ∧
  (∀ k, k ∉ tags → findJob k t = findJob k s ∧ findAsk k t = findAsk k s) ∧
  (∀ p < 48, (getPort p t).ready = (getPort p s).ready ∧
    (p ∉ ports → (getPort p t).occupied = (getPort p s).occupied))

/-! ### Notices and responses -/

/-- The notices join the queue in the order given; those past 32 are lost and set the overflow flag (R180). -/
def State.noting (bs : List NoticeBody) (s : State) : State :=
  s.onCpc fun c =>
    { c with
      notices := (c.notices ++ bs.map fun b => ({ body := b, time := timebase s.now } : Notice)).take 32
      overflow := c.overflow || 32 < c.notices.length + bs.length }

/-- The response record of a command other than NOTICE_READ (R179). -/
def State.answered (code : Byte) (result : ResultCode) (payload : List Byte) (s : State) : State :=
  s.onCpc fun c =>
    { c with
      transaction := some
        { response :=
            { code := code, result := result, level := c.level, noticeCount := c.notices.length, payload := payload },
          noticeRead := none } }

/-! ### Admission -/

/-- Tests 2 to 6 of R22, with the mode and the destination they read from the record. -/
def SubmitFits (r : SubmitRecord) (mode : JobMode) (dest : Dest) (s : State) : Prop :=
  JobMode.read r.mode = some mode ∧ r.tag ≠ 0 ∧ r.cls.toNat ≤ 7 ∧ r.count ≠ 0 ∧ r.rearm.toNat ≤ 1 ∧
  r.sourcePort.toNat < 48 ∧ (getPort r.sourcePort.toNat s).supplies = true ∧ r.destPort.toNat < 48 ∧
  ((r.destKind = 0 ∧ dest = .here r.destPort.toNat ∧ (getPort r.destPort.toNat s).takes = true ∧
      r.destPort ≠ r.sourcePort) ∨
   (r.destKind = 1 ∧ dest = .remote r.destStation.toNat r.destPort.toNat ∧ r.destStation.toNat < 32 ∧
      r.destStation.toNat ≠ s.cfg.station ∧ legTo r.destStation.toNat s ≠ 0 ∧ mode = .single ∧ r.count = 1 ∧
      r.rearm = 0))

/-- The record that R23 gives the new job. -/
def admittedJob (r : SubmitRecord) (mode : JobMode) (dest : Dest) : Job where
  tag := r.tag.toNat
  senderTag := none
  carrier := r.carrier.toNat
  cls := r.cls.toNat
  mode := mode
  rearm := r.rearm = 1
  count := r.count.toNat
  reload := r.count.toNat
  movesDone := 0
  source := .port r.sourcePort.toNat
  dest := dest
  originalDest := none
  age := 0
  callBarred := false
  state := .waiting
  holdReason := none
  vehicle := none
  reservation := none
  callLink := none
  askSeq := none

/-! ### What several rules have in common -/

/-- The step under way ends with nothing owed: no LEAVE to the head of the exit queue (R149), no lending round to open
(R132), no notice outside its queue, which holds at most 32 (R180). -/
def Settled (s : State) : Prop :=
  s.cpc.raised = [] ∧ s.cpc.notices.length ≤ 32 ∧
  (∀ e ∈ s.hu.exitQueue.take 1, e.mayLeave = true → (findVehicle e.vehicle s).isSome = true → e.leaveSent = true) ∧
  (s.cpc.level = .run → 0 < spare s → (∃ e ∈ s.cu.incoming, e.pledge = none) → s.cu.reclaimDeadline.isSome = true)

/-- A frame that reaches step 5 of R167 and is accepted: heard while the device is not held in reset, from another
station, with a target that names this one (R169); and no ASK goes out on account of its sender's peer table entry,
which does not change its state, or for which no HELD ask list entry waits (R143). A job is named by at most one entry
of the ask list (R141). -/
def HeardAndAccepted (h : FrameHead) (s : State) : Prop :=
  s.held = false ∧ h.sender.toNat ≠ s.cfg.station ∧ accepted h.target s = true ∧
  (s.hu.askList.map AskEntry.tag).Nodup ∧
  (s.cpc.level = .config ∨ (getPeer h.sender.toNat s).state = .live ∨
    ∀ e ∈ s.hu.askList, e.station = h.sender.toNat → e.state ≠ .held)

/-- What the hearing of any such frame does before the frame acts: it counts as a good frame on the observed line (R170)
and refreshes its sender's peer table entry (R174). -/
def heardFrom (h : FrameHead) (s : State) : State := refreshPeer h.sender.toNat (countGood s.pbc.observed s)

/-- The tests of R171 have been made, where a counter has changed: with both lines above ErrThreshold the bus is
degraded, which is told once; else, with the observed line above it, the standby line becomes the observed line and
the silence timer starts afresh (R172). -/
def LineTested (changed : Prop) (s t : State) : Prop :=
  (¬ changed → t.pbc.observed = s.pbc.observed ∧ t.pbc.degraded = s.pbc.degraded ∧ t.cpc = s.cpc) ∧
  (changed →
    (s.cfg.errThreshold < t.err s.pbc.observed → s.cfg.errThreshold < t.err s.pbc.observed.other →
      t.pbc.observed = s.pbc.observed ∧ t.pbc.degraded = true ∧
      t.cpc = (if s.pbc.degraded then s else s.noting [.busDegraded t.pbc.errA t.pbc.errB]).cpc) ∧
    (s.cfg.errThreshold < t.err s.pbc.observed → t.err s.pbc.observed.other ≤ s.cfg.errThreshold →
      t.pbc.observed = s.pbc.observed.other ∧ t.pbc.degraded = false ∧
      t.pbc.silenceDeadline = s.deadlineIn s.cfg.silenceLimit ∧ t.pbc.standbyHeard = false ∧
      t.cpc = (s.noting [.lineSwitch s.pbc.observed.other .errors]).cpc) ∧
    (t.err s.pbc.observed ≤ s.cfg.errThreshold →
      t.pbc.observed = s.pbc.observed ∧ t.pbc.degraded = false ∧ t.cpc = s.cpc))

/-- The frame waits in the transmit queue. -/
def InTxQueue (f : TxFrame) (s : State) : Prop := f ∈ s.pbc.txQueue

/-- An ASK has been sent for an entry of the ask list and its job (R143, R144): with the ask seq the entry holds, or,
at its first ASK, one that no entry of the list held (R141); the entry is ASKING with a full AskRetry and an admit
deadline, the job carries the ask seq and no hold reason, and the ASK stands in the transmit queue. -/
def AskSent (e : AskEntry) (j : Job) (s t : State) : Prop :=
  ∃ q : Byte,
    (∀ x ∈ e.askSeq, q = x) ∧ (e.askSeq = none → ∀ x ∈ s.hu.askList, x.askSeq ≠ some q) ∧
    findAsk e.tag t = some
      { e with
        askSeq := some q
        state := .asking
        retryDeadline := some (s.deadlineIn s.cfg.askRetry)
        admitDeadline := some (e.admitDeadline.getD (s.deadlineIn (s.cfg.admitWait * 1000))) } ∧
    findJob e.tag t = some { j with askSeq := some q, holdReason := none } ∧
    InTxQueue
      { target := BitVec.ofNat 8 e.station
        payload := .ask q (BitVec.ofNat 16 e.vehicle) (BitVec.ofNat 24 j.carrier) (BitVec.ofNat 3 j.cls)
          (BitVec.ofNat 8 j.age) (BitVec.ofNat 8 e.port) } t

/-- A vehicle out of service (R68, R76): its command slots are clear, its record names no job, no target and no park
slot, holds no pledge or lend part, and it stands in neither the exit queue nor the incoming call queue. -/
def OutOfService (v : Nat) (s t : State) : Prop :=
  findContext v t = none ∧
  (∀ r ∈ findVehicle v s, ∀ x ∈ findVehicle v t,
    x.currentJob = none ∧ x.nextJob = none ∧ x.target = none ∧ x.parkSlot = none ∧ x.pledge = none ∧ x.lend = none ∧
    x.laden = r.laden) ∧
  t.hu.exitQueue.all (fun e => e.vehicle != v) = true ∧
  t.cu.incoming = s.cu.incoming.filter fun e => e.pledge ≠ some v

/-- The current job of a vehicle that becomes FAULTED or LOST keeps its carrier aboard, and so fails (R42). -/
def Stranded (r : Vehicle) (j : Job) : Prop := (j.state ≠ .assigned ∧ j.state ≠ .loading) ∨ r.laden.isSome = true

/-- What fault and loss do beside the record's new state (R42, R68, R76), for a record `r` whose current job is `j`
and whose next job is `n`: the vehicle is out of service; a current job with its carrier aboard fails with JOB_FAILED,
any other returns to WAITING, and so does the next job; the notice of the fault or loss follows; and where the jobs
the record names are bound to it, no other vehicle or job is touched. -/
def TakenFromService (v : Nat) (r : Vehicle) (j n : Job) (notice : NoticeBody) (s t : State) : Prop :=
  OutOfService v s t ∧
  ((∀ k ∈ r.currentJob.toList ++ r.nextJob.toList, ∀ x ∈ findJob k s, x.vehicle.map Prod.fst = some v) →
    OthersKept [v] (r.currentJob.toList ++ r.nextJob.toList) [] s t) ∧
  (r.currentJob = none → t.cpc = (s.noting [notice]).cpc) ∧
  (r.currentJob = some j.tag → findJob j.tag s = some j →
    (Stranded r j →
      t.cpc = (s.noting [.jobFailed j.tag j.senderTag v .carrierStranded j.carrier, notice]).cpc ∧
      findJob j.tag t = none) ∧
    (¬ Stranded r j →
      t.cpc = (s.noting [notice]).cpc ∧
      findJob j.tag t = some { (j.toWaiting none) with reservation := none })) ∧
  (r.nextJob = some n.tag → findJob n.tag s = some n → r.currentJob ≠ some n.tag →
    findJob n.tag t = some { (n.toWaiting none) with reservation := none })

/-- A HALT that stands in the queued slot (R94). -/
def Queued.isHalt : Queued → Bool
  | .haltSent _ _ => true
  | .waiting _ => false

/-- The take step of R122 has been carried out for an own call with an offer. -/
def OfferTaken (c : OwnCall) (o : BestOffer) (s t : State) : Prop :=
  OthersKept [o.vehicle] [c.tag] [] s t ∧
  (findVehicle o.vehicle t).map (fun r => (r.state, r.currentJob, r.laden, r.inbound)) =
    some (.expected, some c.tag, none,
      some { station := o.station, ref := .lent c.id, phase := .awaitHandoff,
             deadline := s.deadlineIn (s.cfg.departLimit * 1000) }) ∧
  (findJob c.tag t).map (fun j => (j.state, j.vehicle, j.callLink, j.holdReason)) =
    some (.assigned, some (o.vehicle, .current), none, none) ∧
  t.cu.ownCalls = s.cu.ownCalls.filter (fun x => x.slot ≠ c.slot) ∧
  t.cu.takenCalls = s.cu.takenCalls ++
    [{ id := c.id, tag := c.tag, cls := c.cls, urgency := c.urgency, retries := c.retries, lender := o.station,
       vehicle := o.vehicle }] ∧
  (s.cpc.level ≠ .isolated → InTxQueue
    { target := 63, payload := .take c.id (BitVec.ofNat 8 o.station) (BitVec.ofNat 16 o.vehicle) } t)

/-- The requests of R122 that a take step makes are both granted: a roster record is free and none holds the vehicle
(R81), so that the exit queue does not name it either (R142), and a local destination has room for a job that holds no
reservation yet (R53). -/
def TakeGranted (c : OwnCall) (o : BestOffer) (j : Job) (s : State) : Prop :=
  findJob c.tag s = some j ∧ j.reservation = none ∧ s.vr.records.length < 24 ∧ findVehicle o.vehicle s = none ∧
  s.hu.exitQueue.all (fun e => e.vehicle != o.vehicle) = true ∧
  (match j.dest with
    | .here p => (getPort p s).hasRoom 0 = true
    | .remote _ _ => True)

/-- One of the two requests of R122 is refused (R123): no roster record is free, one holds the vehicle already, or the
local destination has no room for a job that holds no reservation. -/
def TakeRefused (c : OwnCall) (o : BestOffer) (j : Job) (s : State) : Prop :=
  findJob c.tag s = some j ∧
  (24 ≤ s.vr.records.length ∨ (findVehicle o.vehicle s).isSome = true ∨
    (j.reservation = none ∧
      match j.dest with
        | .here p => (getPort p s).hasRoom 0 = false
        | .remote _ _ => False))

/-- Whether a port with the occupied count given has room for a job that gives up the reservation it holds (R52, R53).
-/
def roomFor (j : Job) (p occupied : Nat) (s : State) : Bool :=
  (getPort p s).takes &&
    decide (occupied + ((getPort p s).reserved - if j.reservation = some p then 1 else 0) < (getPort p s).capacity)

/-- The reservation a job held is released (R54), and the one named, if any, is granted in its place (R53): no other
reserved count differs. -/
def ReservationMoved (j : Job) (granted : Option Nat) (s t : State) : Prop :=
  ∀ p < 48, (getPort p t).reserved =
    (getPort p s).reserved - (if j.reservation = some p then 1 else 0) + (if granted = some p then 1 else 0)

/-- A job whose carrier is sent to the fallback port instead (R36), with or without a reservation there. -/
def Job.sentTo (f : Nat) (granted : Bool) (j : Job) : Job :=
  { j with
    originalDest := if j.dest = .here f then j.originalDest else some (j.originalDest.getD j.dest)
    dest := .here f
    askSeq := none
    state := .carrying
    holdReason := none
    reservation := if granted then some f else none }

/-- What the end of a frame's transmission is to the Call Unit (R119, R165): the offer window of an OPEN call without
one starts with its CALL, and no other frame concerns it. -/
def WindowStarts (p : Payload) (s t : State) : Prop :=
  match p with
  | .call id _ _ =>
    match unsentCall id s with
    | some c =>
      t.cu = (modifyOwnCall c.slot (fun x => { x with windowDeadline := some (s.deadlineIn s.cfg.offerWindow) }) s).cu
    | none => t.cu = s.cu
  | _ => t.cu = s.cu

/-- The Peer Bus Controller with the frames queued one after another, each behind those of its key (R164). -/
def State.busWith (fs : List TxFrame) (s : State) : PeerBus :=
  { s.pbc with txQueue := fs.foldl (fun q f => joinBehind f q) s.pbc.txQueue }

/-! ### Commands that end, and what is due -/

/-- The state in which a vehicle's command context is free again (R92), with nothing else changed. -/
def State.contextFreed (v : Nat) (s : State) : State :=
  { s with flc := { s.flc with contexts := s.flc.contexts.filter fun x => x.vehicle ≠ v } }

/-- The context of a vehicle to which a command has just been transmitted alone (R89, R93): it bears the vehicle's
next sequence number, and its limit runs from the moment of the state `t`, from the position that the record holds
there (R16, R17). -/
def InFlightAlone (v : Nat) (c : FeederCmd) (s t : State) : Prop :=
  findContext v t = some
    { vehicle := v
      inFlight := some
        { cmd := c, seq := (getLink v s).nextSeq, deadline := limitEnd v c t, haltSent := false, latest := true }
      queued := none }

/-- The Feeder Link Controller once the vehicle's command in flight has ended, with the context `x` it had before: with
nothing queued the context is free; a command that waited is transmitted, and stands alone in flight with a limit from
the position the record held before the end (R16, R93); a HALT transmitted before moves up with its number and limit
and is not transmitted again (R93, R94). -/
def MovedUp (v : Nat) (x : Context) (s t : State) : Prop :=
  match x.queued with
  | none => t.flc = (s.contextFreed v).flc
  | some (.waiting c) =>
    findContext v t = some
      { vehicle := v
        inFlight := some
          { cmd := c, seq := (getLink v s).nextSeq, deadline := limitEnd v c s, haltSent := false, latest := true }
        queued := none } ∧
    t.flc =
      { s.flc with
        contexts := t.flc.contexts
        link := (transmit v c s).flc.link
        sent := s.flc.sent ++
          [{ vehicle := v, sender := s.cfg.station, seq := (getLink v s).nextSeq, cmd := c }] }
  | some (.haltSent q d) =>
    findContext v t = some
      { vehicle := v
        inFlight := some { cmd := .halt, seq := q, deadline := d, haltSent := false, latest := true }
        queued := none } ∧
    t.flc = { s.flc with contexts := t.flc.contexts }

/-- A record that waits for no drain: not DEPARTING without a target (R79). -/
def Vehicle.drained (r : Vehicle) : Prop := ¬ (r.state = .departing ∧ r.target = none)

/-- A queued HALT that bears the sequence number (R94). -/
def Queued.bears (seq : BitVec 4) : Queued → Bool
  | .haltSent q _ => q == seq
  | .waiting _ => false

/-- The time limit of a queued HALT, which has been transmitted; a command that waits has none (R97). -/
def Queued.limit : Queued → Option Nat
  | .haltSent _ d => some d
  | .waiting _ => none

/-- The DONE results, by their codes, that each kind of command can give (R91, 11.3). -/
def FeederCmd.results : FeederCmd → List Byte
  | .goto _ | .leave _ | .pass => [0, 4, 5, 6]
  | .load | .unload => [0, 1, 2, 3, 6]
  | .adopt | .halt => [0, 6]

/-- The reason for which a DONE result faults the record whose command it ends (R75): a hoist fault, an obstructed
track, a refusal, a halt that this station did not send to a command that serves the record's state (R70), no carrier
at an UNLOAD, a carrier already aboard at a LOAD. -/
def InFlight.faults (i : InFlight) (r : Vehicle) (result : Byte) : Option FaultReason :=
  match i.cmd, result.toNat with
  | .load, 3 | .unload, 3 => some .hoistFault
  | .goto _, 4 | .leave _, 4 => some .blocked
  | .pass, _ => none
  | _, 6 => some .refused
  | .goto k, 5 => if i.haltSent = false ∧ i.latest = true ∧ r.target = some k then some .halted else none
  | .leave _, 5 => if i.haltSent = false ∧ r.state = .holding then some .halted else none
  | .unload, 1 => some .emptyPort
  | .load, 2 => some .portFull
  | _, _ => none

/-- The commands that are due of the device's own accord: each names a record whose deadline is present and has been
reached at the present time (R17), and the Dispatcher's decision is due while its mark is set outside CONFIG (R101).
-/
def DueNow (s : State) : Instr → Prop
  | .commandTimeLimitExpiry v => ∃ x ∈ s.flc.contexts, BitVec.ofNat 10 x.vehicle = v ∧ ∃ i ∈ x.inFlight,
      i.deadline ≤ s.now ∨ ∃ y ∈ x.queued, ∃ d ∈ y.limit, d ≤ s.now
  | .statusTimeoutExpiry v => ∃ r ∈ s.vr.records, BitVec.ofNat 10 r.vehicle = v ∧ r.state.owned = true ∧
      ∃ since ∈ r.lastStatus, since + s.cfg.statusTimeout ≤ s.now
  | .lostHoldExpiry v => ∃ r ∈ s.vr.records, BitVec.ofNat 10 r.vehicle = v ∧ r.state = .lost ∧
      ∃ d ∈ r.lostHold, d ≤ s.now
  | .parkDelayExpiry v => ∃ r ∈ s.vr.records, BitVec.ofNat 10 r.vehicle = v ∧ r.state = .idle ∧
      ∃ d ∈ r.parkDeadline, d ≤ s.now
  | .passListExpiry v => ∃ e ∈ s.vr.passList, BitVec.ofNat 10 e.vehicle = v ∧ e.sentAt + 600000 ≤ s.now
  | .portWaitExpiry k => ∃ q ∈ s.pt.toList, ∃ w ∈ q.waitList, BitVec.ofNat 16 w.tag = k ∧ w.deadline ≤ s.now
  | .agingTimerExpiry => ∃ d ∈ s.jt.agingDeadline, d ≤ s.now
  | .dispatchDecision => s.decisionPending = true ∧ s.cpc.level ≠ .config
  | .quietTimerExpiry => ∃ d ∈ s.cu.quietDeadline, d ≤ s.now
  | .offerWindowEnd n => ∃ c ∈ s.cu.ownCalls, BitVec.ofNat 2 c.slot = n ∧ ∃ d ∈ c.windowDeadline, d ≤ s.now
  | .callRetryExpiry n => ∃ c ∈ s.cu.ownCalls, BitVec.ofNat 2 c.slot = n ∧ ∃ d ∈ c.retryDeadline, d ≤ s.now
  | .reclaimWindowEnd => ∃ d ∈ s.cu.reclaimDeadline, d ≤ s.now
  | .pledgeHoldExpiry v => ∃ r ∈ s.vr.records, BitVec.ofNat 10 r.vehicle = v ∧ ∃ p ∈ r.pledge, p.holdDeadline ≤ s.now
  | .callEntryExpiry id => ∃ e ∈ s.cu.incoming, e.id = id ∧ e.pledge = none ∧ e.heardAt + s.cfg.offerWindow ≤ s.now
  | .askRetryExpiry k => ∃ e ∈ s.hu.askList, BitVec.ofNat 16 e.tag = k ∧ ∃ d ∈ e.retryDeadline, d ≤ s.now
  | .admitWaitExpiry k => ∃ e ∈ s.hu.askList, BitVec.ofNat 16 e.tag = k ∧ ∃ d ∈ e.admitDeadline, d ≤ s.now
  | .transitLimitExpiry v => ∃ r ∈ s.vr.records, BitVec.ofNat 10 r.vehicle = v ∧
      ∃ i ∈ r.inbound, i.phase = .inTransit ∧ i.deadline ≤ s.now
  | .inboundDeadlineExpiry v => ∃ r ∈ s.vr.records, BitVec.ofNat 10 r.vehicle = v ∧
      ∃ i ∈ r.inbound, i.phase ≠ .inTransit ∧ i.deadline ≤ s.now
  | .beaconTimerExpiry => ∃ d ∈ s.pbc.beaconDeadline, d ≤ s.now
  | .silenceTimerExpiry => s.pbc.silenceDeadline ≤ s.now
  | _ => False

/-! ### The Dispatcher's decision -/

/-- The source test (R103). -/
def SourceFits (j : Job) (s : State) : Prop :=
  match j.source with
  | .port p => (getPort p s).ready = true ∨ (j.mode = .run ∧ j.holdReason ≠ some .sourceNotReady)
  | .arrival => False

/-- The first test that a job fails is the one that gives this hold reason, with a place promised at each port listed
(R102 to R104, R106). -/
def FailsTest (j : Job) (promised : List Nat) (s : State) : HoldReason → Prop
  | .sourceNotReady => ¬ SourceFits j s
  | .destFull => SourceFits j s ∧
    match j.dest with
    | .here p => (getPort p s).hasRoom (promised.count p) = false
    | .remote _ _ => False
  | .peerDown => SourceFits j s ∧
    match j.dest with
    | .here _ => False
    | .remote st _ => s.cpc.level ≠ .run ∨ (getPeer st s).state ≠ .live
  | .noLender => False

/-- A job that passes both tests (R102). -/
def Eligible (j : Job) (promised : List Nat) (s : State) : Prop :=
  ∀ reason ∈ [HoldReason.sourceNotReady, .destFull, .peerDown], ¬ FailsTest j promised s reason

/-- A job that can call for a foreign vehicle instead (R107). -/
def CanCall (j : Job) (s : State) : Prop :=
  j.state = .calling ∨ (s.cpc.level = .run ∧ j.callBarred = false ∧ j.holdReason ≠ some .noLender)

/-- The vehicle chosen for a job: of the candidates not taken it has the least estimate, the lower number between equal
ones, and the estimate is within reach (R106, R107). -/
def NearestInReach (j : Job) (taken : List Nat) (r : Vehicle) (s : State) : Prop :=
  r ∈ s.vr.records ∧ r.vehicle ∉ taken ∧
  ∃ e ∈ estimate r (pickupPosition j s) s, (CanCall j s → e ≤ s.cfg.reachLimit) ∧
    ∀ x ∈ s.vr.records, x.vehicle ∉ taken → ∀ d ∈ estimate x (pickupPosition j s) s,
      e < d ∨ (e = d ∧ r.vehicle ≤ x.vehicle)

/-- No candidate is left for a job, or the nearest is out of its reach (R106, R107). -/
def NoneInReach (j : Job) (taken : List Nat) (s : State) : Prop :=
  ∀ x ∈ s.vr.records, x.vehicle ∉ taken → ∀ d ∈ estimate x (pickupPosition j s) s,
    CanCall j s ∧ s.cfg.reachLimit < d

/-- A job that wants a call and may be handed to the Call Unit (R111). -/
def MayBeHandedOn (j : Job) (s : State) : Prop :=
  j.state = .waiting ∧ j.callBarred = false ∧ j.holdReason ≠ some .noLender ∧ s.cpc.level = .run

/-- The own call opened for a job (R118), in the lowest free slot (log 18). -/
def newCall (j : Job) (s : State) : OwnCall where
  slot := lowestSlot s
  id := { station := BitVec.ofNat 8 s.cfg.station, seq := nextCallSeq s }
  tag := j.tag
  cls := j.cls
  urgency := urgency j s
  state := .openCall
  windowDeadline := none
  retryDeadline := none
  best := none
  retries := 0

/-- The CALL of an own call (R118). -/
def OwnCall.frame (c : OwnCall) (s : State) : TxFrame where
  target := BitVec.ofNat 8 s.cfg.callGroup
  payload := .call c.id (BitVec.ofNat 3 c.cls) (BitVec.ofNat 16 c.urgency)

/-- The job once it is bound (R25, R27, R65): in role CURRENT to an idle candidate, NEXT to a chain candidate, with a
reservation at a local destination. -/
def Job.boundTo (r : Vehicle) (j : Job) : Job :=
  { j with
    state := .assigned
    holdReason := none
    vehicle := some (r.vehicle, if r.isIdle then .current else .next)
    reservation :=
      match j.dest with
      | .here p => some p
      | .remote _ _ => none
    callLink := none }

/-- The job left WAITING by a decision that found it eligible: NO_LENDER is kept, any other reason removed (R105). -/
def Job.leftEligible (j : Job) : Job :=
  if j.state = .waiting ∧ j.holdReason ≠ some .noLender then { j with holdReason := none } else j

/-- The record once the job is bound to it: an idle candidate drives to the pickup position, a chain candidate keeps its
state and takes the job as its next (R109, R110). -/
def Vehicle.boundTo (tag k : Nat) (r : Vehicle) : Vehicle :=
  if r.isIdle then { r.enter .toPickup with currentJob := some tag, nextJob := none, target := some k }
  else { r with nextJob := some tag }

/-- What the binding of a vehicle makes of its commands: nothing for a chain candidate; an idle candidate is sent a
GOTO, which waits behind a command in flight that it supersedes (the mark latest, log 15); and a PARKING one is sent
HALT ahead of it (R70, R93, R94, R109). -/
def SentToPickup (r : Vehicle) (k : Nat) (s t : State) : Prop :=
  if r.isIdle = true then
    match findContext r.vehicle s with
    | none =>
      if r.state = .parking then
        findContext r.vehicle t = some
          { vehicle := r.vehicle
            inFlight := some
              { cmd := .halt, seq := (getLink r.vehicle s).nextSeq, deadline := s.deadlineIn 2000, haltSent := false
                latest := false }
            queued := some (.waiting (.goto k)) }
      else InFlightAlone r.vehicle (.goto k) s t
    | some x =>
      ∀ i ∈ x.inFlight, findContext r.vehicle t = some
        { x with
          inFlight := some
            { i with haltSent := i.haltSent || (r.state == .parking && i.cmd.cancelledByHalt), latest := false }
          queued := some (.waiting (.goto k)) }
  else findContext r.vehicle t = findContext r.vehicle s

/-- What a decision makes of a job that it examines: the test that fails, the vehicle chosen, or, for one that wants a
call, the call opened, the answer NO_LENDER, or neither. -/
inductive Verdict where
  | fails (reason : HoldReason)
  | takes (r : Vehicle)
  | calls (c : OwnCall)
  | noLender
  | stays
  deriving DecidableEq, Repr

/-- The jobs a decision examines, in the order in which it takes them, each with what it makes of the job. -/
abbrev Plan := List (Job × Verdict)

/-- The vehicles chosen. -/
def Plan.taken (p : Plan) : List Nat :=
  p.filterMap fun x =>
    match x.2 with
    | .takes r => some r.vehicle
    | _ => none

/-- The local destinations of the jobs that are given a vehicle. -/
def Plan.promised (p : Plan) : List Nat :=
  p.filterMap fun x =>
    match x.2, x.1.dest with
    | .takes _, .here q => some q
    | _, _ => none

/-- The calls opened. -/
def Plan.called (p : Plan) : List OwnCall :=
  p.filterMap fun x =>
    match x.2 with
    | .calls c => some c
    | _ => none

/-- The calls closed, since their jobs are given a local vehicle (R27, R125). -/
def Plan.closed (p : Plan) (s : State) : List OwnCall :=
  p.filterMap fun x =>
    match x.2 with
    | .takes _ => s.cu.ownCalls.find? fun c => c.tag == x.1.tag
    | _ => none

/-- The Call Unit's own calls once all the bindings of the plan and the hand-offs of its part `before` are made. -/
def Plan.callsAt (p before : Plan) (s : State) : State :=
  { s with
    cu := { s.cu with
      ownCalls := s.cu.ownCalls.filter (fun c => !(p.closed s).contains c) ++ before.called
      callSeq := (before.called.getLast?.map fun c => c.id.seq + 1).getD s.cu.callSeq } }

/-- What the decision makes of a job is what R102 to R111 and R118 say, given what it made of the jobs before. -/
def Verdict.Right (p before : Plan) (j : Job) (s : State) : Verdict → Prop
  | .fails reason => FailsTest j before.promised s reason
  | .takes r => Eligible j before.promised s ∧ NearestInReach j before.taken r s
  | .calls c =>
    Eligible j before.promised s ∧ NoneInReach j before.taken s ∧ MayBeHandedOn j s ∧
    placeFree (p.callsAt before s) = true ∧ gateOpen j.cls (p.callsAt before s) = true ∧ someLender s = true ∧
    c = newCall j (p.callsAt before s)
  | .noLender =>
    Eligible j before.promised s ∧ NoneInReach j before.taken s ∧ MayBeHandedOn j s ∧
    placeFree (p.callsAt before s) = true ∧ gateOpen j.cls (p.callsAt before s) = true ∧ someLender s = false
  | .stays =>
    Eligible j before.promised s ∧ NoneInReach j before.taken s ∧
    ¬ (MayBeHandedOn j s ∧ placeFree (p.callsAt before s) = true ∧ gateOpen j.cls (p.callsAt before s) = true)

/-- The plan is that of the decision taken now: it holds the jobs examined (R102), lower urgency first and the earlier
admission between equal urgencies (R15, R106), and makes of each what is right, given the jobs before it. -/
def Plan.OfDecision (p : Plan) (s : State) : Prop :=
  (p.map Prod.fst).Perm (s.jt.jobs.filter fun j => servable j s) ∧
  (p.map Prod.fst).Pairwise (fun a b =>
    urgency a s < urgency b s ∨
      (urgency a s = urgency b s ∧ admissionPlace a.tag s < admissionPlace b.tag s)) ∧
  ∀ n < p.length, ∀ x ∈ p[n]?, x.2.Right p (p.take n) x.1 s

/-- The job record that a verdict leaves. -/
def Verdict.leaves (j : Job) : Verdict → Job
  | .fails reason => if j.state = .waiting then { j with holdReason := some reason } else j
  | .takes r => j.boundTo r
  | .calls c => { j with state := .calling, holdReason := none, callLink := some c.slot }
  | .noLender => { j with holdReason := some .noLender }
  | .stays => j.leftEligible

/-- The job given a vehicle, if one is. -/
def Plan.jobFor (p : Plan) (v : Nat) : Option Job :=
  (p.find? fun x =>
    match x.2 with
    | .takes r => r.vehicle == v
    | _ => false).map Prod.fst

/-- The frames a decision requests: a CLOSE for each call closed, then a CALL for each call opened; in ISOLATED none is
queued (R176). -/
def Plan.frames (p : Plan) (s : State) : List TxFrame :=
  if s.cpc.level = .isolated then []
  else
    ((p.closed s).map fun c => ({ target := 63, payload := .close c.id } : TxFrame)) ++
      p.called.map fun c => c.frame s

/-! ### The configuration store, item by item (R182, R193) -/

/-- The number by which an item of the store, or of a port's record, is written: `absentValue` where it is absent. -/
def storedAt (item index : Nat) (s : State) : Nat :=
  match item with
  | 1 => s.cfg.station
  | 2 => s.cfg.groupMask.toNat
  | 3 => s.cfg.callGroup
  | 4 => s.cfg.loopLength
  | 5 => s.cfg.exitPoint
  | 6 => s.cfg.leg.getD index 0
  | 7 => s.cfg.hoistAllowance
  | 8 => s.cfg.reachLimit
  | 9 => s.cfg.quickAccept
  | 10 => s.cfg.classBase.getD index 0
  | 11 => s.cfg.ageGain
  | 12 => s.cfg.travelBase
  | 13 => s.cfg.markAllow
  | 14 => s.cfg.hoistLimit
  | 15 => (getPort index s).mode.code
  | 16 => (getPort index s).position
  | 17 => (getPort index s).capacity
  | 18 => (s.cfg.park.getD index none).getD Config.absentValue
  | 19 => s.cfg.fallback.getD Config.absentValue
  | 20 => s.cfg.strayClass
  | 21 => s.cfg.agingInterval
  | 22 => s.cfg.hotMax
  | 23 => s.cfg.reserveFloor
  | 24 => s.cfg.quietInterval
  | 25 => s.cfg.parkDelay
  | 26 => if s.cfg.lendOrder = .fixed then 0 else 1
  | 27 => s.cfg.offerWindow
  | 28 => s.cfg.reclaimWindow
  | 29 => s.cfg.pledgeHold
  | 30 => s.cfg.callRetryInterval
  | 31 => s.cfg.callRetries
  | 32 => s.cfg.departLimit
  | 33 => s.cfg.transitLimit
  | 34 => s.cfg.askRetry
  | 35 => s.cfg.admitWait
  | 36 => s.cfg.portWait
  | 37 => s.cfg.beaconPeriod
  | 38 => s.cfg.freshLimit
  | 39 => s.cfg.errThreshold
  | 40 => s.cfg.silenceLimit
  | 41 => s.cfg.txFailLimit
  | 42 => if s.cfg.versionPolicy = .ignore then 0 else 1
  | 43 => s.cfg.statusTimeout
  | 44 => s.cfg.lostHold
  | _ => 0

/-! ### Invariants -/

/-- No two live job records share a tag, none has tag 0, and there are at most 64 (R18); no two roster records hold the
same vehicle, and there are at most 24 (R63). -/
def KeysDistinct (s : State) : Prop :=
  (s.jt.jobs.map Job.tag).Nodup ∧ 0 ∉ s.jt.jobs.map Job.tag ∧ s.jt.jobs.length ≤ 64 ∧
  (s.vr.records.map Vehicle.vehicle).Nodup ∧ s.vr.records.length ≤ 24

/-- For every port, the reserved count equals the number of live job records holding a delivery reservation on it, and
neither it nor the occupied count exceeds the capacity (R52); tags are distinct (R18), and in CONFIG no job is live
(R48). -/
def BooksBalance (s : State) : Prop :=
  (s.jt.jobs.map Job.tag).Nodup ∧ (s.cpc.level = .config → s.jt.jobs = []) ∧
  ∀ p < 48,
    (getPort p s).reserved = s.jt.jobs.countP (fun j => j.reservation == some p) ∧
    (getPort p s).reserved ≤ (getPort p s).capacity ∧ (getPort p s).occupied ≤ (getPort p s).capacity

/-- The transmit queue holds at most 8 frames in key order (R164); in ISOLATED it is empty, and a frame on the line does
not return to it (R176). -/
def QueueInKeyOrder (s : State) : Prop :=
  s.pbc.txQueue.length ≤ 8 ∧ s.pbc.txQueue.Pairwise (fun f g => f.order ≤ g.order) ∧
  (s.cpc.level = .isolated → s.pbc.txQueue = [] ∧ ∀ o ∈ s.pbc.onLine, o.noReturn = true)

/-- Every item of the configuration store lies in its written range (R2, R182). -/
def StoreInRange (c : Cfg) : Prop :=
  c.station ≤ 31 ∧ (32 ≤ c.callGroup ∧ c.callGroup ≤ 47 ∨ c.callGroup = 63) ∧
  (64 ≤ c.loopLength ∧ c.loopLength ≤ 16383) ∧ (1 ≤ c.exitPoint ∧ c.exitPoint ≤ 16382) ∧
  (∀ i < 32, c.leg.getD i 0 ≤ 65535) ∧ c.hoistAllowance ≤ 4095 ∧ c.reachLimit ≤ 65535 ∧ c.quickAccept ≤ 65535 ∧
  (∀ i < 8, c.classBase.getD i 0 ≤ 4095) ∧ c.ageGain ≤ 15 ∧ c.travelBase ≤ 60000 ∧
  (1 ≤ c.markAllow ∧ c.markAllow ≤ 100) ∧ (1 ≤ c.hoistLimit ∧ c.hoistLimit ≤ 300) ∧
  (∀ i < 8, ∀ q ∈ c.park.getD i none, q ≤ 16382) ∧ (∀ p ∈ c.fallback, p ≤ 47) ∧ c.strayClass ≤ 7 ∧
  (1 ≤ c.agingInterval ∧ c.agingInterval ≤ 600) ∧ c.hotMax ≤ 7 ∧ c.reserveFloor ≤ 24 ∧ c.quietInterval ≤ 3600 ∧
  (1 ≤ c.parkDelay ∧ c.parkDelay ≤ 600) ∧ (10 ≤ c.offerWindow ∧ c.offerWindow ≤ 2000) ∧ c.reclaimWindow ≤ 500 ∧
  (100 ≤ c.pledgeHold ∧ c.pledgeHold ≤ 10000) ∧ (100 ≤ c.callRetryInterval ∧ c.callRetryInterval ≤ 30000) ∧
  c.callRetries ≤ 15 ∧ (1 ≤ c.departLimit ∧ c.departLimit ≤ 600) ∧ (1 ≤ c.transitLimit ∧ c.transitLimit ≤ 900) ∧
  (100 ≤ c.askRetry ∧ c.askRetry ≤ 10000) ∧ (1 ≤ c.admitWait ∧ c.admitWait ≤ 900) ∧
  (1 ≤ c.portWait ∧ c.portWait ≤ 600) ∧ (100 ≤ c.beaconPeriod ∧ c.beaconPeriod ≤ 5000) ∧
  (2 ≤ c.freshLimit ∧ c.freshLimit ≤ 15) ∧ (1 ≤ c.errThreshold ∧ c.errThreshold ≤ 255) ∧
  (10 ≤ c.silenceLimit ∧ c.silenceLimit ≤ 1000) ∧ (1 ≤ c.txFailLimit ∧ c.txFailLimit ≤ 31) ∧
  (100 ≤ c.statusTimeout ∧ c.statusTimeout ≤ 10000) ∧ (1 ≤ c.lostHold ∧ c.lostHold ≤ 600)

/-- The store and the counters of the Peer Bus Controller stay in range (R166, R170, R182); the isolation cause is
present exactly in ISOLATED (R185 to R187); and in RUN the failure count stands below TxFailLimit (R166). -/
def RegistersInRange (s : State) : Prop :=
  StoreInRange s.cfg ∧ s.pbc.errA ≤ 255 ∧ s.pbc.errB ≤ 255 ∧ s.pbc.txFailures ≤ 31 ∧
  (s.cpc.isolationCause.isSome = true ↔ s.cpc.level = .isolated) ∧
  (s.cpc.level = .run → s.pbc.txFailures < s.cfg.txFailLimit)

/-- Each peer table entry holds values in the ranges of R174, with freshness above 0 exactly while it is LIVE; the own
station's entry stays UNKNOWN (R174), and in CONFIG every entry is as reset and STOP leave it (R176). FreshLimit lies in
its range (R182). -/
def PeerTableFits (s : State) : Prop :=
  (2 ≤ s.cfg.freshLimit ∧ s.cfg.freshLimit ≤ 15) ∧
  (s.cpc.level = .config → s.pbc.peers = Vector.replicate 32 Peer.reset) ∧
  (getPeer s.cfg.station s).state = .unknown ∧
  ∀ st < 32, ((getPeer st s).state = .live ↔ 0 < (getPeer st s).freshness) ∧ (getPeer st s).freshness ≤ 15 ∧
    (getPeer st s).spare ≤ 24 ∧ (getPeer st s).freeRecords ≤ 24 ∧ (getPeer st s).freeJobSlots ≤ 64 ∧
    (getPeer st s).waitingJobs ≤ 64

/-! ### The records of the blocks name one another -/

def Dest.isRemote : Dest → Bool
  | .here _ => false
  | .remote _ _ => true

/-- The job a record names in a role (R64). -/
def Vehicle.jobIn (r : Vehicle) : Role → Option Nat
  | .current => r.currentJob
  | .next => r.nextJob

/-- A job record names a vehicle in a role exactly when that vehicle's record names the job in that role (R65). -/
def BindingsAgree (s : State) : Prop :=
  (∀ j ∈ s.jt.jobs, ∀ x ∈ j.vehicle, ∃ r ∈ s.vr.records, r.vehicle = x.1 ∧ r.jobIn x.2 = some j.tag) ∧
  (∀ r ∈ s.vr.records, ∀ role ∈ [Role.current, Role.next], ∀ k ∈ r.jobIn role,
    ∃ j ∈ s.jt.jobs, j.tag = k ∧ j.vehicle = some (r.vehicle, role))

/-- What a job record holds by its state (R19, R25 to R39): WAITING, PAUSED and CALLING name no vehicle and every other
state one, as next job only in ASSIGNED; a call link belongs to CALLING, an ask seq to a carrier aboard for another bay;
HOLDING is for a remote destination, INBOUND for a port of this bay. -/
def Job.fits (j : Job) : Bool :=
  (j.vehicle.isNone == (j.state == .waiting || j.state == .paused || j.state == .calling)) &&
  (j.vehicle.all fun x => x.2 == .current || j.state == .assigned) &&
  (j.callLink.isSome == (j.state == .calling)) &&
  (j.askSeq.isNone || (j.dest.isRemote && (j.state == .carrying || j.state == .holding))) &&
  (j.state != .holding || j.dest.isRemote) && (j.state != .inbound || !j.dest.isRemote)

/-- The state of a current job beside that of its vehicle's record (chapter 4, table of R65 to R86). -/
def Vehicle.carries (r : Vehicle) (j : Job) : Bool :=
  match r.state, r.inbound.map Inbound.ref with
  | .expected, some (.lent _) => j.state == .assigned
  | .expected, some (.laden _) => j.state == .inbound
  | .toPickup, _ => j.state == .assigned
  | .loading, _ => j.state == .loading
  | .laden, _ => j.state == .carrying
  | .unloading, _ => j.state == .carrying && !j.dest.isRemote
  | .holding, _ => j.state == .holding && r.lend.isNone
  | _, _ => false

/-- What a roster record holds by its state (R64): an inbound part in EXPECTED alone, a pledge part in PLEDGED alone, a
lend part in DEPARTING and perhaps in HOLDING; a current job that goes with the state; and a next job behind a delivery
to a port of this bay that releases the vehicle (R8, R110). -/
def RecordsFit (s : State) : Prop :=
  (∀ j ∈ s.jt.jobs, j.fits = true) ∧
  ∀ r ∈ s.vr.records,
    (r.inbound.isSome = true ↔ r.state = .expected) ∧ (r.pledge.isSome = true ↔ r.state = .pledged) ∧
    (r.lend.isSome = true → r.state = .departing ∨ r.state = .holding) ∧ (r.state = .departing → r.lend.isSome = true) ∧
    (∀ k ∈ r.currentJob, ∃ j ∈ s.jt.jobs, j.tag = k ∧ r.carries j = true) ∧
    (r.nextJob.isSome = true → (chainDrop { r with nextJob := none } s).isSome = true)

/-- The waits at the ports (R57, R58): a port that is ready holds none, and each names an ASSIGNED job of SINGLE or RUN
mode whose source is the port and whose vehicle is TO_PICKUP. -/
def WaitsAgree (s : State) : Prop :=
  ∀ p < 48, ∀ w ∈ (getPort p s).waitList,
    (getPort p s).ready = false ∧
    ∃ j ∈ s.jt.jobs, j.tag = w.tag ∧ j.source = .port p ∧ j.mode ≠ .demand ∧
      ∃ r ∈ s.vr.records, r.state = .toPickup ∧ j.vehicle = some (r.vehicle, .current)

/-- The call places (R117, R126): at most 4 are in use; the own calls stand in distinct slots, each for a job in
CALLING that names its slot, and every such job has one; each taken-call entry is for an EXPECTED record of its call
and its job; and no two calls share an id. -/
def CallsAgree (s : State) : Prop :=
  s.cu.ownCalls.length + s.cu.takenCalls.length ≤ 4 ∧ (s.cu.ownCalls.map OwnCall.slot).Nodup ∧
  (s.cu.ownCalls.map OwnCall.tag).Nodup ∧
  (s.cu.ownCalls.map OwnCall.id ++ s.cu.takenCalls.map TakenCall.id).Nodup ∧
  (∀ c ∈ s.cu.ownCalls, c.slot < 4 ∧ ∃ j ∈ s.jt.jobs, j.tag = c.tag ∧ j.state = .calling ∧ j.callLink = some c.slot) ∧
  (∀ j ∈ s.jt.jobs, j.state = .calling → ∃ c ∈ s.cu.ownCalls, c.tag = j.tag) ∧
  (∀ k ∈ s.cu.takenCalls, ∃ r ∈ s.vr.records, r.vehicle = k.vehicle ∧ r.currentJob = some k.tag ∧
    r.inbound.map Inbound.ref = some (.lent k.id))

/-- The incoming call queue (R129): at most 8 entries with distinct call ids; every PLEDGED record is pledged to the
call of an entry that names it, no two entries name one vehicle, and every vehicle named is PLEDGED. -/
def PledgesAgree (s : State) : Prop :=
  s.cu.incoming.length ≤ 8 ∧ (s.cu.incoming.map Incoming.id).Nodup ∧ (s.cu.incoming.filterMap Incoming.pledge).Nodup ∧
  (∀ r ∈ s.vr.records, ∀ p ∈ r.pledge, ∃ e ∈ s.cu.incoming, e.id = p.call ∧ e.pledge = some r.vehicle) ∧
  (∀ e ∈ s.cu.incoming, ∀ v ∈ e.pledge, ∃ r ∈ s.vr.records, r.vehicle = v ∧ r.pledge.isSome = true)

/-- The ask list (R141): at most 24 entries, no job named by two and no ask seq held by two; each names a job with its
carrier aboard for the entry's station and port, its vehicle and its ask seq, and every such job has an entry. -/
def AsksAgree (s : State) : Prop :=
  s.hu.askList.length ≤ 24 ∧ (s.hu.askList.map AskEntry.tag).Nodup ∧ (s.hu.askList.filterMap AskEntry.askSeq).Nodup ∧
  (∀ e ∈ s.hu.askList, ∃ j ∈ s.jt.jobs, j.tag = e.tag ∧ (j.state = .carrying ∨ j.state = .holding) ∧
    j.dest = .remote e.station e.port ∧ j.vehicle = some (e.vehicle, .current) ∧ j.askSeq = e.askSeq) ∧
  (∀ j ∈ s.jt.jobs, j.state = .carrying ∨ j.state = .holding → j.dest.isRemote = true →
    ∃ e ∈ s.hu.askList, e.tag = j.tag)

/-- The exit queue holds exactly the records in HOLDING, each once, with the kind of each (R142). -/
def ExitQueueAgrees (s : State) : Prop :=
  (s.hu.exitQueue.map ExitEntry.vehicle).Nodup ∧
  (∀ e ∈ s.hu.exitQueue, ∃ r ∈ s.vr.records, r.vehicle = e.vehicle ∧ r.state = .holding ∧ r.lend.isSome = e.lent) ∧
  (∀ r ∈ s.vr.records, r.state = .holding → ∃ e ∈ s.hu.exitQueue, e.vehicle = r.vehicle)

/-- The job records, the roster records, the waits, the calls, the pledges, the ask list and the exit queue name one
another as their rules say (R57, R65, R117, R129, R141, R142), with distinct keys (R18, R63). -/
def RecordsLinked (s : State) : Prop :=
  KeysDistinct s ∧ BindingsAgree s ∧ RecordsFit s ∧ WaitsAgree s ∧ CallsAgree s ∧ PledgesAgree s ∧ AsksAgree s ∧
  ExitQueueAgrees s

end Sys2Proof.Machine
end

