-- ==== Sys2Proof/WellFormed.lean ====
section
/-! DEFINITION. Which commands stand for something that can happen: the operands that make a row of the table no such
event are refused here. A command that fails these checks is no event of the device (log 7). -/

namespace Sys2Proof

open Machine

/-- A feeder-link record that is rejected (R99): it fails the form test, or carries a command kind. -/
def rejectedRecord (bytes : List Byte) : Bool :=
  match formTest bytes with
  | none => true
  | some (.command _) => true
  | some _ => false

/-- The bytes of a frame that fails the form check or the version check (R167). -/
def badFrameBytes (bytes : List Byte) : Bool :=
  match hear bytes with
  | .good _ => false
  | _ => true

/-- A station number, group or all-stations target that the accepted kinds carry: 0..47 or 63 (11.2). -/
def targetInRange (target : Byte) : Bool := target.toNat < 48 || target = Config.allStations

/-- The checks, one arm per command; the commands whose operands are all meaningful pass. -/
def Instr.wf : Instr → Bool
  | .unknownCommandCode code => (commandLength code.toNat).isNone
  | .status v _ | .done v _ _ _ | .entry v | .exit v => vehicleInRange v.toNat
  | .feederRecordRejected bytes => rejectedRecord bytes
  | .commandTimeLimitExpiry v | .statusTimeoutExpiry v | .lostHoldExpiry v | .parkDelayExpiry v | .passListExpiry v
  | .pledgeHoldExpiry v | .transitLimitExpiry v | .inboundDeadlineExpiry v => v ≠ 0
  | .portWaitExpiry tag | .askRetryExpiry tag | .admitWaitExpiry tag => tag ≠ 0
  | .badFrame _ bytes => badFrameBytes bytes
  | .unacceptedFrame h => h.target ≠ Config.allStations
  | .call h .. | .offer h .. | .take h .. | .close h .. | .refuse h .. | .ask h .. | .grant h .. | .defer h ..
  | .deny h .. | .handoff h .. | .beacon h .. => targetInRange h.target
  | .submit .. | .cancel .. | .portSet .. | .vehicleRemove .. | .jobRead .. | .vehicleRead .. | .peerRead ..
  | .noticeRead | .noticeResponseComplete | .statusRead | .cfgWrite .. | .cfgCheck | .start | .isolate | .resume
  | .stop | .selectReleasedEarly .. | .resetAsserted | .resetReleased | .powerUp | .agingTimerExpiry
  | .dispatchDecision | .quietTimerExpiry | .offerWindowEnd .. | .callRetryExpiry .. | .reclaimWindowEnd
  | .callEntryExpiry .. | .beaconTimerExpiry | .silenceTimerExpiry | .transmissionAttempt | .contentionLost
  | .transmissionEnd .. | .standbyFrame | .duplicateStationFrame => true

end Sys2Proof
end

