-- ==== Sys2Proof/Certificates/Slice0/Obligations.lean ====
section
/-! DEFINITION. The statements for the provers, family by family of the opcode table, then the invariants and the
encodings. Each says that the command answers a next state, what that state holds, and what it leaves as it was. -/

open Sys2Proof Sys2Proof.Machine

/-! ### The machine -/

/-- A step takes the command at the front of the queue and runs it on the state with the queue's rest. -/
def Obligations.StepRunsTheFrontCommand : Prop :=
  ∀ (c : Instr) (rest : List Instr) (s : State),
    step { s with pending := c :: rest } = exec c { s with pending := rest }

/-- The model's choice (logs 1 and 3): on an empty queue one millisecond passes and the commands then due are queued,
and in reset nothing happens. What is due is each command that names a record or a timer whose deadline has been
reached, and the Dispatcher's decision while its mark is set; nothing else is. -/
def Obligations.EmptyQueueLetsOneMillisecondPass : Prop :=
  ∀ (c : Instr) (s : State),
    (s.pending = [] → s.held = true → step s = .next s) ∧
    (s.pending = [] → s.held = false →
      step s = .next { s with now := s.now + 1, pending := dueCommands { s with now := s.now + 1 } }) ∧
    (c ∈ dueCommands s ↔ DueNow s c)

/-- Every command answers a next state. None but the reset pin's touches the pin, the clock or the queue; in reset none
acts (R188); and the store and the configured fields of the ports change at CFG_WRITE in CONFIG alone (R2, R50, R182).
That a command given in reset has no effect is the model's reading (log 5). -/
def Obligations.CommandsKeepQueueClockAndStore : Prop :=
  ∀ (c : Instr) (s : State),
    ∃ t, exec c s = .next t ∧
      (c.isReset = false →
        t.held = s.held ∧ t.pending = s.pending ∧ t.now = s.now ∧ (s.held = true → t = s) ∧
        (s.cpc.level ≠ .config ∨ c.isCfgWrite = false →
          t.cfg = s.cfg ∧
          ∀ p < 48, (getPort p t).mode = (getPort p s).mode ∧ (getPort p t).position = (getPort p s).position ∧
            (getPort p t).capacity = (getPort p s).capacity))

/-- The operating level changes in the ways of chapter 10.4 alone: START from CONFIG to RUN, RESUME from ISOLATED to
RUN, STOP to CONFIG, and ISOLATE or a bus event from RUN to ISOLATED. -/
def Obligations.LevelChangesOnlyByItsCommands : Prop :=
  ∀ (c : Instr) (s : State),
    ∃ t, exec c s = .next t ∧
      (c.isReset = false → t.cpc.level ≠ s.cpc.level →
        (s.cpc.level = .config ∧ t.cpc.level = .run ∧ c = .start) ∨
        (s.cpc.level = .run ∧ t.cpc.level = .isolated ∧ c.mayIsolate = true) ∨
        (s.cpc.level = .isolated ∧ t.cpc.level = .run ∧ c = .resume) ∨
        (s.cpc.level ≠ .config ∧ t.cpc.level = .config ∧ c = .stop))

/-- RESETN low takes the level, the notice line and the response from the pins and cuts the frame on the line short;
its release, and power-up, leave every item at its value after reset, with the commands that wait still in the model's
queue (R188). That the tables keep what they held while RESETN is low (log 5), the values of log 37, the kept queue
(log 47), the model's own ownCopy (log 55) and that POWER_UP leaves reset whatever the pin was before (log 61) are the
model's readings and choices. -/
def Obligations.ResetLeavesItsValues : Prop :=
  ∀ (s : State),
    (∃ t, exec .resetAsserted s = .next t ∧
      t = { s with
        held := true
        cpc := { s.cpc with transaction := none }
        pbc := { s.pbc with onLine := none } } ∧
      levelNow t = none ∧ noticeLineLow t = false ∧ responseBytes t = none) ∧
    exec .powerUp s = exec .resetReleased s ∧
    (∃ t, exec .resetReleased s = .next t ∧
      t.pending = s.pending ∧ t.held = false ∧ t.now = 0 ∧ t.decisionPending = false ∧
      (t.cfg.station, t.cfg.groupMask, t.cfg.callGroup, t.cfg.loopLength, t.cfg.exitPoint) = (0, 0, 63, 2000, 1900) ∧
      (t.cfg.hoistAllowance, t.cfg.reachLimit, t.cfg.quickAccept, t.cfg.ageGain) = (40, 3000, 1500, 4) ∧
      (t.cfg.travelBase, t.cfg.markAllow, t.cfg.hoistLimit) = (5000, 2, 30) ∧
      t.cfg.leg = Vector.replicate 32 0 ∧ t.cfg.classBase = Vector.ofFn (fun c : Fin 8 => 500 * c.val) ∧
      t.cfg.park = Vector.replicate 8 none ∧
      (t.cfg.fallback, t.cfg.strayClass, t.cfg.agingInterval, t.cfg.hotMax, t.cfg.reserveFloor) = (none, 4, 10, 1, 2) ∧
      (t.cfg.quietInterval, t.cfg.parkDelay, t.cfg.lendOrder, t.cfg.offerWindow) = (300, 30, .fixed, 150) ∧
      (t.cfg.reclaimWindow, t.cfg.pledgeHold, t.cfg.callRetryInterval, t.cfg.callRetries) = (40, 1000, 2000, 3) ∧
      (t.cfg.departLimit, t.cfg.transitLimit, t.cfg.askRetry, t.cfg.admitWait, t.cfg.portWait) =
        (60, 120, 1000, 90, 20) ∧
      (t.cfg.beaconPeriod, t.cfg.freshLimit, t.cfg.errThreshold, t.cfg.silenceLimit) = (500, 4, 31, 50) ∧
      (t.cfg.txFailLimit, t.cfg.versionPolicy, t.cfg.statusTimeout, t.cfg.lostHold) = (8, .ignore, 1000, 10) ∧
      (t.cpc.level, t.cpc.isolationCause, t.cpc.checked, t.cpc.notices, t.cpc.overflow) =
        (.config, none, false, [], false) ∧
      (t.cpc.transaction, t.cpc.raised) = (none, []) ∧
      (t.jt.jobs, t.jt.agingDeadline, t.vr.records, t.vr.passList) = ([], none, [], []) ∧
      t.pt = Vector.replicate 48
        { mode := .off, position := 0, capacity := 1, occupied := 0, reserved := 0, ready := false, waitList := [] } ∧
      (t.flc.contexts, t.flc.link, t.flc.formatTotal, t.flc.unmatchedTotal, t.flc.lastCounted) = ([], [], 0, 0, none) ∧
      t.flc.sent = [] ∧
      (t.cu.ownCalls, t.cu.takenCalls, t.cu.callSeq, t.cu.incoming, t.cu.reclaimDeadline) = ([], [], 0, [], none) ∧
      (t.cu.rotation, t.cu.quiet, t.cu.quietDeadline) = (List.range 32, false, none) ∧
      (t.hu.askList, t.hu.askSeq, t.hu.exitQueue) = ([], 0, []) ∧
      (t.pbc.txQueue, t.pbc.observed, t.pbc.errA, t.pbc.errB, t.pbc.degraded) = ([], .a, 0, 0, false) ∧
      (t.pbc.onLine, t.pbc.txFailures, t.pbc.duplicate, t.pbc.beaconDeadline) = (none, 0, false, none) ∧
      t.pbc.ownCopy = none ∧
      (t.pbc.silenceDeadline, t.pbc.standbyHeard) = (50, false) ∧
      t.pbc.peers = Vector.replicate 32
        { state := .unknown, freshness := 0, spare := 0, freeRecords := 0, freeJobSlots := 0, waitingJobs := 0,
          quiet := false })

/-! ### The host's commands -/

/-- A SUBMIT that passes the tests of R22 creates the record of R23 at the end of the admission order, clears QUIET,
restarts the quiet timer, wakes the Dispatcher and is answered OK. -/
def Obligations.SubmitAdmitsJob : Prop :=
  ∀ (r : SubmitRecord) (mode : JobMode) (dest : Dest) (s : State),
    s.held = false → Settled s → s.cpc.level ≠ .config → SubmitFits r mode dest s → findJob r.tag.toNat s = none →
    s.jt.jobs.length < 64 →
    exec (.submit r) s = .next
      (State.answered 1 .ok []
        { s with
          jt := { s.jt with jobs := s.jt.jobs ++ [admittedJob r mode dest] }
          decisionPending := true
          cu :=
            { s.cu with
              quiet := false
              quietDeadline :=
                if s.cfg.quietInterval = 0 then none else some (s.now + s.cfg.quietInterval * 1000) } })

/-- A SUBMIT is answered with the code of the first test of R22 that fails, and a CANCEL in CONFIG, of a tag that is not
live, or of a job whose carrier is aboard or promised inbound with WRONG_LEVEL, UNKNOWN_TAG or TOO_LATE (R44); neither
then changes a table. -/
def Obligations.SubmitAndCancelRefusedWithoutEffect : Prop :=
  ∀ (r : SubmitRecord) (mode : JobMode) (dest : Dest) (tag : Half) (j : Job) (s : State),
    s.held = false →
    (s.cpc.level = .config →
      exec (.submit r) s = .next (State.answered 1 .wrongLevel [] s) ∧
      exec (.cancel tag) s = .next (State.answered 2 .wrongLevel [] s)) ∧
    (s.cpc.level ≠ .config →
      ((∀ m ∈ [JobMode.single, .run, .demand],
          ∀ d ∈ [Dest.here r.destPort.toNat, .remote r.destStation.toNat r.destPort.toNat], ¬ SubmitFits r m d s) →
        exec (.submit r) s = .next (State.answered 1 .badArg [] s)) ∧
      (SubmitFits r mode dest s → (findJob r.tag.toNat s).isSome = true →
        exec (.submit r) s = .next (State.answered 1 .duplicateTag [] s)) ∧
      (SubmitFits r mode dest s → findJob r.tag.toNat s = none → 64 ≤ s.jt.jobs.length →
        exec (.submit r) s = .next (State.answered 1 .tableFull [] s)) ∧
      (findJob tag.toNat s = none → exec (.cancel tag) s = .next (State.answered 2 .unknownTag [] s)) ∧
      (findJob tag.toNat s = some j →
        j.state = .loading ∨ j.state = .carrying ∨ j.state = .holding ∨ j.state = .inbound →
        exec (.cancel tag) s = .next (State.answered 2 .tooLate [] s)))

/-- A CANCEL that is taken retires the job with JOB_CANCELLED, releases its reservation and undoes what its state has
bound: nothing for WAITING and PAUSED, the own call for CALLING (R44), the binding for ASSIGNED (R45). A lent
vehicle's taken-call entry ends (R126); it is found by the call id and the vehicle together, the model's reading (log
58). -/
def Obligations.CancelRetiresJobAndUndoesItsBinding : Prop :=
  ∀ (tag : Half) (j : Job) (c : OwnCall) (v : Nat) (r : Vehicle) (id : CallId) (s : State),
    s.held = false → Settled s → s.cpc.level ≠ .config → s.pbc.txQueue.length < 8 → findJob tag.toNat s = some j →
    j.state ≠ .loading → j.state ≠ .carrying → j.state ≠ .holding → j.state ≠ .inbound →
    ∃ t, exec (.cancel tag) s = .next t ∧
      t.cpc = (State.answered 2 .ok [] (s.noting [.jobCancelled j.tag j.senderTag])).cpc ∧
      t.cfg = s.cfg ∧ t.hu = s.hu ∧ t.vr.passList = s.vr.passList ∧
      t.jt = { s.jt with jobs := s.jt.jobs.filter fun x => x.tag ≠ j.tag } ∧
      (∀ p < 48, getPort p t =
        { getPort p s with
          reserved := (getPort p s).reserved - (if j.reservation = some p then 1 else 0)
          waitList := (getPort p s).waitList.filter fun w => w.tag ≠ j.tag }) ∧
      (j.state = .waiting ∨ j.state = .paused → j.vehicle = none →
        t.vr = s.vr ∧ t.flc = s.flc ∧ t.pbc = s.pbc ∧ t.cu.ownCalls = s.cu.ownCalls) ∧
      (j.state = .calling → j.vehicle = none → (s.cu.ownCalls.find? fun x => x.tag == j.tag) = some c →
        t.vr = s.vr ∧ t.flc = s.flc ∧ t.cu.ownCalls = s.cu.ownCalls.filter (fun x => x.slot ≠ c.slot) ∧
        (s.cpc.level = .run → InTxQueue { target := 63, payload := .close c.id } t)) ∧
      (j.state = .assigned → j.vehicle = some (v, .next) →
        t.vr = (unbindRecord v j.tag s).vr ∧ t.flc = s.flc ∧ t.pbc = s.pbc ∧ t.cu.ownCalls = s.cu.ownCalls) ∧
      (j.state = .assigned → j.vehicle = some (v, .current) → findVehicle v s = some r → r.inbound = none →
        t.vr = (becomeIdle v (unbindRecord v j.tag s)).vr ∧ t.flc = (requestHalt v s).flc ∧ t.pbc = s.pbc ∧
        t.cu.ownCalls = s.cu.ownCalls) ∧
      (j.state = .assigned → j.vehicle = some (v, .current) → findVehicle v s = some r →
        r.inbound.map Inbound.ref = some (.lent id) →
        t.vr = (unbindRecord v j.tag s).vr ∧ t.flc = s.flc ∧ t.pbc = s.pbc ∧
        t.cu.takenCalls = s.cu.takenCalls.filter fun x => !x.isFor id v)

/-- PORT_SET gives ready and occupied the values present, occupied clamped to capacity, and a value that changes wakes
the Dispatcher (R55, R56, R61). At a port that becomes ready every wait ends with LOAD: it stands in the vehicle's
command context, the job and the record are LOADING; and its PAUSED jobs return to WAITING (R56). A refused one
changes nothing. That an occupied given which equals the count held wakes nobody is the model's reading (log 26). -/
def Obligations.PortSetWritesPortAndServesReadiness : Prop :=
  ∀ (port ready occupied : Byte) (w : PortWait) (j : Job) (v : Nat) (r : Vehicle) (s : State),
    s.held = false → Settled s →
    (s.cpc.level = .config →
      ∃ b, exec (.portSet port ready occupied) s = .next (State.answered 3 .wrongLevel b s)) ∧
    (s.cpc.level ≠ .config →
      48 ≤ port.toNat ∨ (getPort port.toNat s).mode = .off ∨ (ready ≠ 0 ∧ ready ≠ 1 ∧ ready ≠ 255) →
      ∃ b, exec (.portSet port ready occupied) s = .next (State.answered 3 .badArg b s)) ∧
    (s.cpc.level ≠ .config → port.toNat < 48 → (getPort port.toNat s).mode ≠ .off →
      ready = 0 ∨ ready = 1 ∨ ready = 255 →
      ∃ t, exec (.portSet port ready occupied) s = .next t ∧
        t.cpc = (State.answered 3
          (if occupied ≠ 255 ∧ (getPort port.toNat s).capacity < occupied.toNat then .clamped else .ok)
          (portBytes port.toNat t) s).cpc ∧
        (ready = 255 → occupied = 255 → OnlyTouches [.cpc] s t) ∧
        (getPort port.toNat t).occupied =
          (if occupied = 255 then (getPort port.toNat s).occupied
           else min occupied.toNat (getPort port.toNat s).capacity) ∧
        (getPort port.toNat t).ready = (if ready = 255 then (getPort port.toNat s).ready else ready = 1) ∧
        (getPort port.toNat t).reserved = (getPort port.toNat s).reserved ∧
        t.decisionPending = (s.decisionPending ||
          (getPort port.toNat t).occupied != (getPort port.toNat s).occupied ||
          (getPort port.toNat t).ready != (getPort port.toNat s).ready) ∧
        (∀ p < 48, p ≠ port.toNat → (getPort p t).occupied = (getPort p s).occupied ∧
          (getPort p t).reserved = (getPort p s).reserved ∧ (getPort p t).ready = (getPort p s).ready) ∧
        (¬ (ready = 1 ∧ (getPort port.toNat s).ready = false) → OnlyTouches [.cpc, .pt, .dsp] s t) ∧
        (ready = 1 → (getPort port.toNat s).ready = false →
          OnlyTouches [.cpc, .pt, .dsp, .jt, .vr, .flc] s t ∧ (getPort port.toNat t).waitList = [] ∧
          (w ∈ (getPort port.toNat s).waitList → ((getPort port.toNat s).waitList.map PortWait.tag).Nodup →
            findJob w.tag s = some j → j.vehicle = some (v, .current) → findVehicle v s = some r →
            (∀ x ∈ (getPort port.toNat s).waitList, x.tag ≠ w.tag →
              ∀ k ∈ findJob x.tag s, k.vehicle.map Prod.fst ≠ some v) →
            findJob w.tag t = some { j with state := .loading, holdReason := none } ∧
            findVehicle v t = some (r.enter .loading) ∧
            findContext v t = findContext v (requestCmd v .load s) ∧
            (findContext v s = none → InFlightAlone v .load s t) ∧
            ((getPort port.toNat s).waitList = [w] → t.flc = (requestCmd v .load s).flc)) ∧
          (∀ k ∈ s.jt.jobs, k.state = .paused → k.source = .port port.toNat →
            (∀ x ∈ (getPort port.toNat s).waitList, x.tag ≠ k.tag) → k.toWaiting none ∈ t.jt.jobs) ∧
          (∀ k ∈ s.jt.jobs, k.state ≠ .paused ∨ k.source ≠ .port port.toNat →
            (∀ x ∈ (getPort port.toNat s).waitList, x.tag ≠ k.tag) → k ∈ t.jt.jobs) ∧
          (∀ y ∈ s.vr.records,
            (∀ x ∈ (getPort port.toNat s).waitList, ∀ k ∈ findJob x.tag s, k.vehicle.map Prod.fst ≠ some y.vehicle) →
            y ∈ t.vr.records)))

/-- VEHICLE_REMOVE takes a FAULTED or LOST record out of the roster and nothing else; in CONFIG it is answered
WRONG_LEVEL, for any other record or none BAD_ARG (R77). -/
def Obligations.VehicleRemoveTakesFaultedOrLost : Prop :=
  ∀ (v : Half) (r : Vehicle) (s : State),
    s.held = false → Settled s →
    (s.cpc.level = .config → exec (.vehicleRemove v) s = .next (State.answered 4 .wrongLevel [] s)) ∧
    (s.cpc.level ≠ .config → findVehicle v.toNat s = none →
      exec (.vehicleRemove v) s = .next (State.answered 4 .badArg [] s)) ∧
    (s.cpc.level ≠ .config → findVehicle v.toNat s = some r → r.state ≠ .faulted → r.state ≠ .lost →
      exec (.vehicleRemove v) s = .next (State.answered 4 .badArg [] s)) ∧
    (s.cpc.level ≠ .config → findVehicle v.toNat s = some r → r.state = .faulted ∨ r.state = .lost →
      exec (.vehicleRemove v) s = .next (State.answered 4 .ok []
        { s with vr := { s.vr with records := s.vr.records.filter fun x => x.vehicle ≠ v.toNat } }))

/-- The four reads are taken at every level and change nothing but the response (R49, R87, R177, R189). Their payloads
have the lengths of 11.4; JOB_READ's shows the record's tag, state, place and U at their offsets (R193). The blank
bytes are the model's reading (log 31). -/
def Obligations.ReadsChangeNothingAndFillTheirRecords : Prop :=
  ∀ (tag v : Half) (st : Byte) (j : Job) (s : State),
    s.held = false →
    exec (.jobRead tag) s = .next
      (State.answered 5 (if (findJob tag.toNat s).isSome then .ok else .unknownTag) (jobReadBytes tag.toNat s) s) ∧
    (jobReadBytes tag.toNat s).length = 33 ∧
    (findJob tag.toNat s = some j →
      ((jobReadBytes tag.toNat s).drop 1).take 2 = bytesOf 2 j.tag ∧
      ((jobReadBytes tag.toNat s).drop 22).take 1 = byteOf j.state.code ∧
      ((jobReadBytes tag.toNat s).drop 30).take 1 = byteOf (admissionPlace j.tag s) ∧
      (jobReadBytes tag.toNat s).drop 31 = bytesOf 2 (urgency j s)) ∧
    exec (.vehicleRead v) s = .next
      (State.answered 6 (if v = 0 ∨ (findVehicle v.toNat s).isSome then .ok else .badArg) (vehicleReadBytes v.toNat s)
        s) ∧
    (vehicleReadBytes v.toNat s).length = 56 ∧
    (st.toNat < 32 → exec (.peerRead st) s = .next (State.answered 7 .ok (peerBytes st.toNat s) s)) ∧
    (peerBytes st.toNat s).length = 9 ∧
    (32 ≤ st.toNat → exec (.peerRead st) s = .next (State.answered 7 .badArg [255, 0, 0, 0, 0, 0, 0, 0, 0] s)) ∧
    exec .statusRead s = .next (State.answered 9 .ok (statusBytes s) s) ∧ (statusBytes s).length = 67

/-- NOTICE_READ leaves the queue and the flag as they are, and the end of its response removes exactly what it carried:
the head as it stood, and the flag, whatever notices have joined meanwhile (R181). -/
def Obligations.NoticeReadRemovesWhatItCarried : Prop :=
  ∀ (joined : List Notice) (s : State),
    s.held = false →
    ∃ t, exec .noticeRead s = .next t ∧
      t = { s with cpc := { s.cpc with transaction := t.cpc.transaction } } ∧
      responseBytes t = some
        ([8, 0, BitVec.ofNat 8 s.cpc.level.code, BitVec.ofNat 8 s.cpc.notices.length] ++ noticeReadBytes s) ∧
      ∃ w, exec .noticeResponseComplete
          { t with cpc := { t.cpc with notices := s.cpc.notices ++ joined } } = .next w ∧
        w.cpc.notices = s.cpc.notices.tail ++ joined ∧ w.cpc.overflow = false ∧
        OnlyTouches [.cpc] s w ∧ w.cpc.level = s.cpc.level ∧ w.cpc.raised = s.cpc.raised

/-- CFG_WRITE outside CONFIG is answered WRONG_LEVEL. In CONFIG it clears the checked flag; an unknown item or index
is BAD_ARG with the store unchanged; any other stores the value itself where it lies in the item's range, and else the
nearer end, answered CLAMPED, CallGroup going by its own rule (R182). The item written then holds the value stored,
every other holds what it held, and a capacity below a port's occupied count lowers the count to it (R50). The blank
bytes (log 31) and that the running silence deadline stays where it stands (log 41) are the model's readings; that a
GroupMask with bits above its 16 is clamped is its choice (log 60). -/
def Obligations.CfgWriteStoresClampedValue : Prop :=
  ∀ (item index : Byte) (value : BitVec 32) (i k : Item) (m n : Nat) (s : State),
    s.held = false →
    (s.cpc.level ≠ .config →
      exec (.cfgWrite item index value) s = .next (State.answered 10 .wrongLevel [0, 0, 0, 0] s)) ∧
    (s.cpc.level = .config →
      (itemOf item.toNat = none ∨ (itemOf item.toNat = some i ∧ i.indices ≤ index.toNat) →
        exec (.cfgWrite item index value) s = .next
          (State.answered 10 .badArg [0, 0, 0, 0] { s with cpc := { s.cpc with checked := false } })) ∧
      (itemOf item.toNat = some i → index.toNat < i.indices →
        ∃ t, exec (.cfgWrite item index value) s = .next t ∧ OnlyTouches [.cfg, .pt, .cpc] s t ∧
          t.cpc = (State.answered 10 (if storedValue item.toNat i value.toNat = value.toNat then .ok else .clamped)
            (bytesOf 4 (storedValue item.toNat i value.toNat)) { s with cpc := { s.cpc with checked := false } }).cpc ∧
          (i.lo ≤ value.toNat → value.toNat ≤ i.hi → item ≠ 3 → storedValue item.toNat i value.toNat = value.toNat) ∧
          (value.toNat < i.lo → item ≠ 3 → storedValue item.toNat i value.toNat = i.lo) ∧
          (i.hi < value.toNat → item ≠ 3 → ¬ (i.mayBeAbsent = true ∧ value = 0xFFFFFFFF) →
            storedValue item.toNat i value.toNat = i.hi) ∧
          (i.mayBeAbsent = true → value = 0xFFFFFFFF → storedValue item.toNat i value.toNat = value.toNat) ∧
          (item = 3 → storedValue item.toNat i value.toNat =
            if value.toNat < 32 then 32 else if value.toNat ≤ 47 then value.toNat else 63) ∧
          storedAt item.toNat index.toNat t = storedValue item.toNat i value.toNat ∧
          (itemOf m = some k → n < k.indices → m ≠ item.toNat ∨ n ≠ index.toNat → storedAt m n t = storedAt m n s) ∧
          (∀ p < 48, (getPort p t).occupied =
              (if item = 17 ∧ p = index.toNat then
                min (getPort p s).occupied (storedValue item.toNat i value.toNat)
              else (getPort p s).occupied) ∧
            (getPort p t).reserved = (getPort p s).reserved ∧ (getPort p t).ready = (getPort p s).ready ∧
            (getPort p t).waitList = (getPort p s).waitList)))

/-- CFG_CHECK outside CONFIG is answered WRONG_LEVEL. In CONFIG it makes the five tests in their order: the first that
fails is named, with its port or slot, and clears the checked flag; when all pass the flag is set (R183). Among several
equal pairs of park slots the pair is the model's choice (log 42), and the blank bytes its reading (log 31). -/
def Obligations.CfgCheckNamesFirstFailure : Prop :=
  ∀ (p q i j : Nat) (s : State),
    s.held = false →
    (s.cpc.level ≠ .config → exec .cfgCheck s = .next (State.answered 11 .wrongLevel [0, 255] s)) ∧
    (s.cpc.level = .config →
      ∃ t, exec .cfgCheck s = .next t ∧ OnlyTouches [.cpc] s t ∧ t.cpc.notices = s.cpc.notices ∧
        t.cpc.level = s.cpc.level ∧
        (t.cpc.checked = true ↔
          s.cfg.exitPoint < s.cfg.loopLength ∧
          (∀ k < 48, (getPort k s).mode ≠ .off → (getPort k s).position < s.cfg.loopLength) ∧
          (∀ k < 8, ∀ a ∈ s.cfg.park.getD k none, a < s.cfg.loopLength) ∧
          (∀ k < 8, ∀ l < k, ∀ a ∈ s.cfg.park.getD k none, s.cfg.park.getD l none ≠ some a) ∧
          (∃ f ∈ s.cfg.fallback, (getPort f s).takes = true)) ∧
        (t.cpc.checked = true → responseBytes t = some [11, 0, 0, BitVec.ofNat 8 s.cpc.notices.length, 0, 255]) ∧
        (s.cfg.loopLength ≤ s.cfg.exitPoint →
          responseBytes t = some [11, 9, 0, BitVec.ofNat 8 s.cpc.notices.length, 1, 255]) ∧
        (s.cfg.exitPoint < s.cfg.loopLength → badPorts s = [] → badParks s = [] → equalParks s = [] →
          t.cpc.checked = false →
          responseBytes t = some [11, 9, 0, BitVec.ofNat 8 s.cpc.notices.length, 5, 255]) ∧
        (s.cfg.exitPoint < s.cfg.loopLength → p < 48 → (getPort p s).mode ≠ .off →
          s.cfg.loopLength ≤ (getPort p s).position →
          (∀ k < p, (getPort k s).mode ≠ .off → (getPort k s).position < s.cfg.loopLength) →
          responseBytes t = some [11, 9, 0, BitVec.ofNat 8 s.cpc.notices.length, 2, BitVec.ofNat 8 p]) ∧
        (s.cfg.exitPoint < s.cfg.loopLength → badPorts s = [] → i < 8 → s.cfg.park.getD i none = some q →
          s.cfg.loopLength ≤ q → (∀ k < i, ∀ a ∈ s.cfg.park.getD k none, a < s.cfg.loopLength) →
          responseBytes t = some [11, 9, 0, BitVec.ofNat 8 s.cpc.notices.length, 3, BitVec.ofNat 8 i]) ∧
        (s.cfg.exitPoint < s.cfg.loopLength → badPorts s = [] → badParks s = [] →
          (equalParks s).head? = some (i, j) →
          i < j ∧ s.cfg.park.getD i none = s.cfg.park.getD j none ∧
          responseBytes t = some [11, 9, 0, BitVec.ofNat 8 s.cpc.notices.length, 4, BitVec.ofNat 8 j]))

/-- START in CONFIG with the checked flag set makes the level RUN with a LEVEL_CHANGE of cause HOST and acts at each
block as R184 lists, with a BEACON that replaces a queued one, joins the queue, or at a full one is dropped with
TX_DROP (R164); one that is queued marks the frame on the line (R165; the mark is the model's own field, log 59). In
another level START is answered WRONG_LEVEL, without the flag NOT_CHECKED. -/
def Obligations.StartEntersRun : Prop :=
  ∀ (f : TxFrame) (s : State),
    s.held = false →
    (s.cpc.level ≠ .config → exec .start s = .next (State.answered 12 .wrongLevel [] s)) ∧
    (s.cpc.level = .config → s.cpc.checked = false → exec .start s = .next (State.answered 12 .notChecked [] s)) ∧
    (Settled s → s.cpc.level = .config → s.cpc.checked = true → s.jt.jobs = [] → s.vr.records = [] →
      s.cu.incoming = [] → f = { target := 63, payload := .beacon 0 24 64 0 0 } →
      ∃ t, exec .start s = .next t ∧
        t.cpc = (State.answered 12 .ok []
          (State.noting
            ((if s.pbc.txQueue.any TxFrame.isBeacon = false ∧ 8 ≤ s.pbc.txQueue.length then [.txDrop 11 63] else []) ++
              [.levelChange .config .run .host])
            { s with cpc := { s.cpc with level := .run } })).cpc ∧
        t.jt = { s.jt with agingDeadline := some (s.deadlineIn (s.cfg.agingInterval * 1000)) } ∧
        t.pt = s.pt.map (fun p => { p with ready := false, reserved := 0, waitList := [] }) ∧
        t.vr = s.vr ∧ t.flc = { s.flc with contexts := [] } ∧ t.decisionPending = s.decisionPending ∧
        t.cu =
          { s.cu with
            rotation := List.range 32
            quiet := false
            quietDeadline :=
              if s.cfg.quietInterval = 0 then none else some (s.now + s.cfg.quietInterval * 1000) } ∧
        t.hu = s.hu ∧ t.cfg = s.cfg ∧
        t.pbc =
          { s.pbc with
            beaconDeadline := some (s.deadlineIn s.cfg.beaconPeriod)
            txFailures := 0
            duplicate := false
            onLine :=
              if s.pbc.txQueue.any TxFrame.isBeacon = true ∨ s.pbc.txQueue.length < 8 then
                s.pbc.onLine.map fun o => { o with newerBeacon := true }
              else s.pbc.onLine
            txQueue :=
              if s.pbc.txQueue.any TxFrame.isBeacon then s.pbc.txQueue.map fun g => if g.isBeacon then f else g
              else if s.pbc.txQueue.length < 8 then joinBehind f s.pbc.txQueue
              else s.pbc.txQueue })

/-- ISOLATE in RUN makes the level ISOLATED with cause HOST and a LEVEL_CHANGE, and acts at each block as R185 lists
(R47, R138, R159, R176); in ISOLATED it is answered OK and changes nothing, in CONFIG WRONG_LEVEL. R26 and R138 leave
the job of a dropped call without a hold reason: that it takes PEER_DOWN with the other WAITING jobs, where its
destination is remote, is the model's reading (log 20). -/
def Obligations.IsolateEntersIsolated : Prop :=
  ∀ (s : State),
    s.held = false →
    (s.cpc.level = .config → exec .isolate s = .next (State.answered 14 .wrongLevel [] s)) ∧
    (s.cpc.level = .isolated → exec .isolate s = .next (State.answered 14 .ok [] s)) ∧
    (Settled s → s.cpc.level = .run →
      ∃ t, exec .isolate s = .next t ∧
        t.cpc = (State.answered 14 .ok []
          (State.noting [.levelChange .run .isolated .host]
            { s with cpc := { s.cpc with level := .isolated, isolationCause := some .host } })).cpc ∧
        t.cfg = s.cfg ∧ t.pt = s.pt ∧ t.flc = s.flc ∧ t.decisionPending = true ∧
        t.cu = { s.cu with ownCalls := [], incoming := [], reclaimDeadline := none } ∧
        t.hu = { s.hu with askList := s.hu.askList.map AskEntry.isolated } ∧
        (∀ e ∈ t.hu.askList, e.state = .held ∨ e.state = .granted) ∧
        t.pbc = { s.pbc with txQueue := [], onLine := s.pbc.onLine.map fun o => { o with noReturn := true } } ∧
        t.jt.jobs.map Job.tag = s.jt.jobs.map Job.tag ∧
        (∀ c ∈ s.cu.ownCalls, ∀ k ∈ t.jt.jobs, k.tag = c.tag →
          k.state = .waiting ∧ k.callLink = none ∧ k.callBarred = false) ∧
        (∀ k ∈ t.jt.jobs, Job.heldByIsolation s k = true → k.holdReason = some .peerDown) ∧
        (∀ j ∈ s.jt.jobs, (∀ c ∈ s.cu.ownCalls, c.tag ≠ j.tag) → Job.heldByIsolation s j = false → j ∈ t.jt.jobs) ∧
        t.vr.passList = s.vr.passList ∧
        (∀ e ∈ s.cu.incoming, ∀ v ∈ e.pledge, ∀ r ∈ findVehicle v s, r.state = .pledged →
          (findVehicle v t).map (fun x => (x.state, x.pledge)) = some (.idle, none)) ∧
        (∀ r ∈ s.vr.records, (∀ e ∈ s.cu.incoming, e.pledge ≠ some r.vehicle) → r ∈ t.vr.records))

/-- RESUME in ISOLATED makes the level RUN with a LEVEL_CHANGE, removes the isolation cause, clears the failure count
and the duplicate mark, requests a BEACON, which marks the frame on the line (R165; the model's own field, log 59),
wakes the Dispatcher and sends the ASK of every HELD entry that may be asked for; the others stay as they are (R159,
R176, R186). In another level it is answered WRONG_LEVEL. -/
def Obligations.ResumeReturnsToRun : Prop :=
  ∀ (e : AskEntry) (j : Job) (s : State),
    s.held = false →
    (s.cpc.level ≠ .isolated → exec .resume s = .next (State.answered 15 .wrongLevel [] s)) ∧
    (Settled s → s.cpc.level = .isolated → s.pbc.txQueue = [] → s.hu.askList.length ≤ 7 →
      (s.hu.askList.map AskEntry.tag).Nodup →
      ∃ t, exec .resume s = .next t ∧ OnlyTouches [.cpc, .jt, .dsp, .cu, .hu, .pbc] s t ∧
        t.cpc = (State.answered 15 .ok []
          (State.noting [.levelChange .isolated .run .host]
            { s with cpc := { s.cpc with level := .run, isolationCause := none } })).cpc ∧
        t.decisionPending = true ∧ t.cu.ownCalls = s.cu.ownCalls ∧ t.cu.incoming = s.cu.incoming ∧
        t.hu.exitQueue = s.hu.exitQueue ∧ t.jt.jobs.map Job.tag = s.jt.jobs.map Job.tag ∧
        t.pbc.txFailures = 0 ∧ t.pbc.duplicate = false ∧ t.pbc.peers = s.pbc.peers ∧
        (t.pbc.errA, t.pbc.errB, t.pbc.observed) = (s.pbc.errA, s.pbc.errB, s.pbc.observed) ∧
        t.pbc.onLine = (s.pbc.onLine.map fun o => { o with newerBeacon := true }) ∧
        InTxQueue { target := 63, payload := beaconPayload s } t ∧
        (findAsk e.tag s = some e → findJob e.tag s = some j → e.state = .held →
          (getPeer e.station s).state = .live → 0 < (getPeer e.station s).freeRecords →
          0 < (getPeer e.station s).freeJobSlots → AskSent e j s t) ∧
        (findAsk e.tag s = some e →
          e.state ≠ .held ∨ (getPeer e.station s).state ≠ .live ∨ (getPeer e.station s).freeRecords = 0 ∨
            (getPeer e.station s).freeJobSlots = 0 →
          findAsk e.tag t = some e ∧ findJob e.tag t = findJob e.tag s) ∧
        (∀ k ∈ s.jt.jobs, (∀ x ∈ findAsk k.tag s, x.state ≠ .held) → k ∈ t.jt.jobs))

/-- STOP in RUN or ISOLATED makes the level CONFIG with STOPPED and then LEVEL_CHANGE, halts every owned vehicle and
empties the tables as R187 lists, keeping what R48, R62, R89, R117, R141 and R170 keep, and the model's own ownCopy
(log 55); in CONFIG it is answered WRONG_LEVEL. -/
def Obligations.StopEmptiesTables : Prop :=
  ∀ (s : State),
    s.held = false →
    (s.cpc.level = .config → exec .stop s = .next (State.answered 13 .wrongLevel [] s)) ∧
    (Settled s → s.cpc.level ≠ .config →
      ∃ t, exec .stop s = .next t ∧
        t.cpc = (State.answered 13 .ok []
          (State.noting [.stopped s.jt.jobs.length, .levelChange s.cpc.level .config .host]
            { s with cpc := { s.cpc with level := .config, isolationCause := none } })).cpc ∧
        t.cfg = s.cfg ∧ t.jt = { jobs := [], agingDeadline := none } ∧ t.vr = { records := [], passList := [] } ∧
        t.pt = s.pt.map (fun p => { p with ready := false, reserved := 0, waitList := [] }) ∧
        t.decisionPending = false ∧
        t.cu =
          { ownCalls := [], takenCalls := [], callSeq := s.cu.callSeq, incoming := [], reclaimDeadline := none,
            rotation := List.range 32, quiet := false, quietDeadline := none } ∧
        t.hu = { askList := [], askSeq := s.hu.askSeq, exitQueue := [] } ∧
        t.pbc =
          { txQueue := [], onLine := s.pbc.onLine.map fun o => { o with noReturn := true },
            ownCopy := s.pbc.ownCopy, observed := s.pbc.observed, errA := 0, errB := 0, degraded := false, txFailures := 0, duplicate := false,
            silenceDeadline := s.deadlineIn s.cfg.silenceLimit, standbyHeard := false, beaconDeadline := none,
            peers := Vector.replicate 32 Peer.reset } ∧
        (t.flc.formatTotal, t.flc.unmatchedTotal, t.flc.lastCounted) =
          (s.flc.formatTotal, s.flc.unmatchedTotal, s.flc.lastCounted) ∧
        (∀ r ∈ s.vr.records, r.state.owned = true → ∃ x ∈ t.flc.contexts, x.vehicle = r.vehicle ∧
          ((∃ i ∈ x.inFlight, i.cmd = .halt) ∨ (∃ q ∈ x.queued, q.isHalt = true))))

/-- A command code the device does not know is answered BAD_ARG with the four-byte header alone and has no effect
(R179). A release of the select ends the transaction and changes nothing else: a record cut short is discarded, and of
a command taken what was left of the response is lost (R178), so that a NOTICE_READ whose response was cut short
removes no notice (R181). That the row of the early release stands for the later one too is the model's reading (log
7). -/
def Obligations.UnknownCodeAndEarlyReleaseHaveNoEffect : Prop :=
  ∀ (code : Byte) (bytes : List Byte) (s : State),
    s.held = false →
    (commandLength code.toNat = none →
      ∃ t, exec (.unknownCommandCode code) s = .next t ∧
        t = { s with cpc := { s.cpc with transaction := t.cpc.transaction } } ∧
        responseBytes t = some [code, 2, BitVec.ofNat 8 s.cpc.level.code, BitVec.ofNat 8 s.cpc.notices.length]) ∧
    (∃ t, exec (.selectReleasedEarly bytes) s = .next t ∧
      t = { s with cpc := { s.cpc with transaction := none } } ∧ responseBytes t = none ∧
      exec .noticeResponseComplete t = .next t)

/-! ### The feeder link's reports -/

/-- A STATUS acts on its vehicle's record: an owned one as R66 orders (position and last status, owner conflict,
health, the recovery test of R77: a FAULTED record that fails it stays FAULTED); an EXPECTED one enters as at ENTRY, at the position reported, and faults on bad
health (R82); a LOST one becomes FAULTED or IDLE (R69). An unusable report is a format error (R5), and in CONFIG a
usable one is discarded. That a report without owner shows another owner, the laden field of a LOST record that
faults, and a laden report with carrier id 0 taken as it stands, are the model's readings (logs 11, 12 and 50). -/
def Obligations.StatusActsOnOwnedRecord : Prop :=
  ∀ (v : Half) (rep : StatusReport) (view : StatusView) (r : Vehicle) (i : Inbound) (id : CallId) (was : Prior)
      (j n : Job) (s : State),
    s.held = false → Settled s → vehicleInRange v.toNat = true →
    (rep.view s.cfg.loopLength = none → exec (.status v rep) s = .next (countFormatError v.toNat s)) ∧
    (rep.view s.cfg.loopLength = some view → s.cpc.level = .config → exec (.status v rep) s = .next s) ∧
    (rep.view s.cfg.loopLength = some view → s.cpc.level ≠ .config → findVehicle v.toNat s = some r →
      r.state.owned = true →
      (r.state ≠ .faulted → (r.ownerConfirmed = true → view.owner = some s.cfg.station) → view.healthBad = false →
        exec (.status v rep) s = .next
          (modifyVehicle v.toNat (fun x => { x with position := some view.position, lastStatus := some s.now }) s)) ∧
      (r.state ≠ .faulted → r.ownerConfirmed = true → view.owner ≠ some s.cfg.station →
        ∃ t, exec (.status v rep) s = .next t ∧
          (findVehicle v.toNat t).map (fun x => (x.state, x.faultReason, x.position)) =
            some (.faulted, some .ownerConflict, some view.position) ∧
          TakenFromService v.toNat r j n (.ownerConflict v.toNat view.owner) s t) ∧
      (r.state ≠ .faulted → (r.ownerConfirmed = true → view.owner = some s.cfg.station) → view.healthBad = true →
        ∃ t, exec (.status v rep) s = .next t ∧
          (findVehicle v.toNat t).map (fun x => (x.state, x.faultReason, x.position)) =
            some (.faulted, some .health, some view.position) ∧
          TakenFromService v.toNat r j n (.vehicleFault v.toNat .health) s t) ∧
      (r.state = .faulted →
        view.healthBad = true ∨ view.laden.isSome = true ∨ view.motion ≠ .stopped ∨
          view.owner ≠ some s.cfg.station →
        exec (.status v rep) s = .next
          (modifyVehicle v.toNat (fun x => { x with position := some view.position, lastStatus := some s.now }) s)) ∧
      (r.state = .faulted → view.healthBad = false → view.laden = none → view.motion = .stopped →
        view.owner = some s.cfg.station →
        ∃ t, exec (.status v rep) s = .next t ∧ OnlyTouches [.vr, .dsp, .cu] s t ∧ t.decisionPending = true ∧
          t.vr = (modifyVehicle v.toNat (fun x =>
            { x.enter .idle with
              position := some view.position, lastStatus := some s.now, laden := none, faultReason := none,
              idleSince := some s.now, parkDeadline := some (s.deadlineIn (s.cfg.parkDelay * 1000)) }) s).vr)) ∧
    (rep.view s.cfg.loopLength = some view → s.cpc.level ≠ .config → findVehicle v.toNat s = some r →
      r.state = .expected → r.inbound = some i →
      (view.healthBad = false →
        ∃ u, exec (.entry v) s = .next u ∧
          exec (.status v rep) s = .next
            (modifyVehicle v.toNat (fun x => { x with position := some view.position }) u)) ∧
      (view.healthBad = true → r.nextJob = none → i.ref = .lent id ∨ Stranded r j →
        ∃ t, exec (.status v rep) s = .next t ∧
          (findVehicle v.toNat t).map (fun x => (x.state, x.faultReason, x.position, x.lastStatus, x.inbound)) =
            some (.faulted, some .health, some view.position, some s.now, none) ∧
          TakenFromService v.toNat r j n (.vehicleFault v.toNat .health) s t)) ∧
    (rep.view s.cfg.loopLength = some view → s.cpc.level ≠ .config → findVehicle v.toNat s = some r →
      r.state = .lost → r.prior = some was → r.currentJob = none → r.nextJob = none →
      ((r.ownerConfirmed = true ∧ view.owner ≠ some s.cfg.station) ∨ view.healthBad = true ∨
          view.laden.isSome = true ∨ was.abandoned = true ∨
          (was.state = .faulted ∧ (view.motion ≠ .stopped ∨ view.owner ≠ some s.cfg.station)) →
        ∃ t, exec (.status v rep) s = .next t ∧ t.jt = s.jt ∧ t.pt = s.pt ∧ t.pbc = s.pbc ∧ t.cfg = s.cfg ∧
          t.hu.askList = s.hu.askList ∧ t.vr.passList = s.vr.passList ∧ OthersKept [v.toNat] [] [] s t ∧
          findContext v.toNat t = none ∧
          t.cu = { s.cu with incoming := s.cu.incoming.filter fun e => e.pledge ≠ some v.toNat } ∧
          findVehicle v.toNat t = some
            { r.enter .faulted with
              position := some view.position, lastStatus := some s.now, laden := view.laden
              faultReason := some
                (if r.ownerConfirmed = true ∧ view.owner ≠ some s.cfg.station then .ownerConflict
                 else if view.healthBad then .health else .lostRecovery)
              prior := none, lostHold := none, pledge := none, lend := none } ∧
          t.cpc = (s.noting
            [if r.ownerConfirmed = true ∧ view.owner ≠ some s.cfg.station then .ownerConflict v.toNat view.owner
             else .vehicleFault v.toNat (if view.healthBad then .health else .lostRecovery)]).cpc) ∧
      ((r.ownerConfirmed = true → view.owner = some s.cfg.station) → view.healthBad = false → view.laden = none →
        was.abandoned = false →
        (was.state = .faulted → view.motion = .stopped ∧ view.owner = some s.cfg.station) →
        ∃ t, exec (.status v rep) s = .next t ∧ OnlyTouches [.vr, .dsp, .cu] s t ∧ t.decisionPending = true ∧
          t.vr = (modifyVehicle v.toNat (fun x =>
            { x.enter .idle with
              position := some view.position, lastStatus := some s.now, laden := none, prior := none,
              lostHold := none, idleSince := some s.now,
              parkDeadline := some (s.deadlineIn (s.cfg.parkDelay * 1000)) }) s).vr))

/-- The first accepted STATUS of a vehicle without a record (R84): on the pass list it starts nothing; at a full
roster the vehicle is sent PASS; with the own station as owner it is rediscovered; any other is adopted as a stray
with ADOPT; a laden one gets a job toward the fallback port, or, at a full Job Table, faults with NO_JOB_SLOT (R41);
one of bad health faults with HEALTH. That bad health goes before a full Job Table is the model's reading (log 48);
that a laden report with carrier id 0 is taken as it stands (log 50), and that port 0 stands for the fallback port in
a state without one, which outside CONFIG no run from reset reaches (log 35), are its choices. -/
def Obligations.UnknownVehicleIsAdoptedOrPassed : Prop :=
  ∀ (v : Half) (rep : StatusReport) (view : StatusView) (carrier : Nat) (s : State),
    s.held = false → Settled s → vehicleInRange v.toNat = true → rep.view s.cfg.loopLength = some view →
    s.cpc.level ≠ .config → findVehicle v.toNat s = none →
    (onPassList v.toNat s = true → exec (.status v rep) s = .next s) ∧
    (onPassList v.toNat s = false → s.vr.records.length = 24 →
      ∃ t, exec (.status v rep) s = .next t ∧ OnlyTouches [.cpc, .vr, .flc] s t ∧
        t.cpc = (s.noting [.strayRefused v.toNat view.owner]).cpc ∧ t.vr.records = s.vr.records ∧
        onPassList v.toNat t = true ∧ t.flc.contexts = s.flc.contexts ∧
        t.flc.sent = s.flc.sent ++
          [{ vehicle := v.toNat, sender := s.cfg.station, seq := (getLink v.toNat s).nextSeq, cmd := .pass }]) ∧
    (onPassList v.toNat s = false → s.vr.records.length < 24 →
      view.healthBad = true ∨ (view.laden = some carrier ∧ 64 ≤ s.jt.jobs.length) →
      ∃ t, exec (.status v rep) s = .next t ∧ t.jt = s.jt ∧ t.pt = s.pt ∧ t.vr.passList = s.vr.passList ∧
        OthersKept [v.toNat] [] [] s t ∧ t.cfg = s.cfg ∧ t.pbc = s.pbc ∧
        (findVehicle v.toNat t).map (fun x => (x.state, x.faultReason, x.laden)) =
          some (.faulted, some (if view.healthBad then .health else .noJobSlot), view.laden)) ∧
    (onPassList v.toNat s = false → s.vr.records.length < 24 → view.healthBad = false →
      view.laden = none ∨ s.jt.jobs.length < 64 →
      ∃ t, exec (.status v rep) s = .next t ∧ t.decisionPending = true ∧ t.vr.passList = s.vr.passList ∧
        OthersKept [v.toNat] [provisionalTag s] [] s t ∧ t.cfg = s.cfg ∧ t.hu.askList = s.hu.askList ∧ t.pbc = s.pbc ∧
        (findVehicle v.toNat t).map (fun x => (x.position, x.lastStatus, x.laden, x.ownerConfirmed)) =
          some (some view.position, some s.now, view.laden, decide (view.owner = some s.cfg.station)) ∧
        (view.owner = some s.cfg.station → t.cpc = s.cpc) ∧
        (view.owner ≠ some s.cfg.station → findContext v.toNat s = none →
          (findContext v.toNat t).bind (fun x => x.inFlight.map InFlight.cmd) = some .adopt) ∧
        (view.laden = none →
          (findVehicle v.toNat t).map Vehicle.state = some .idle ∧ t.jt = s.jt ∧ t.pt = s.pt ∧
          (view.owner ≠ some s.cfg.station → t.cpc = (s.noting [.stray v.toNat view.owner none 0]).cpc)) ∧
        (view.laden = some carrier →
          (findVehicle v.toNat t).map (fun x => (x.state, x.currentJob, x.target)) =
            some (.laden, some (provisionalTag s), some (getPort (fallbackPort s) s).position) ∧
          findJob (provisionalTag s) s = none ∧
          (findJob (provisionalTag s) t).map
              (fun k => (k.carrier, k.cls, k.mode, k.count, k.source, k.dest, k.state, k.vehicle)) =
            some (carrier, s.cfg.strayClass, .single, 1, .arrival, .here (fallbackPort s), .carrying,
              some (v.toNat, .current)) ∧
          (findJob (provisionalTag s) t).map Job.reservation =
            some (if (getPort (fallbackPort s) s).hasRoom 0 then some (fallbackPort s) else none) ∧
          (view.owner ≠ some s.cfg.station →
            t.cpc = (s.noting [.stray v.toNat view.owner (some (provisionalTag s)) carrier]).cpc)))

/-- A record that fails the form test adds 1 to the format error total alone; a command kind counts against its
vehicle too and makes it the last counted (R99). A DONE that matches neither the command in flight nor a queued HALT
adds 1 to the unmatched total; one that matches with a result its kind cannot give, or as a LOAD's OK with carrier 0,
is a format error of its vehicle, and the command stays (R91, R95). -/
def Obligations.UnusableFeederRecordsAreCounted : Prop :=
  ∀ (bytes : List Byte) (v : Half) (u : Nat) (seq : BitVec 4) (result : Byte) (carrier : Triple) (x : Context)
      (i : InFlight) (s : State),
    s.held = false → Settled s →
    (formTest bytes = none →
      exec (.feederRecordRejected bytes) s = .next
        { s with flc := { s.flc with formatTotal := min (s.flc.formatTotal + 1) 65535 } }) ∧
    (formTest bytes = some (.command v) →
      ∃ t, exec (.feederRecordRejected bytes) s = .next t ∧ OnlyTouches [.flc] s t ∧
        t.flc.formatTotal = min (s.flc.formatTotal + 1) 65535 ∧ t.flc.lastCounted = some v.toNat ∧
        t.flc.unmatchedTotal = s.flc.unmatchedTotal ∧ t.flc.contexts = s.flc.contexts ∧ t.flc.sent = s.flc.sent ∧
        getLink v.toNat t =
          { getLink v.toNat s with formatErrors := min ((getLink v.toNat s).formatErrors + 1) 255 } ∧
        (u ≠ v.toNat → getLink u t = getLink u s)) ∧
    (vehicleInRange v.toNat = true → findContext v.toNat s = none →
      exec (.done v seq result carrier) s = .next
        { s with flc := { s.flc with unmatchedTotal := min (s.flc.unmatchedTotal + 1) 65535 } }) ∧
    (vehicleInRange v.toNat = true → findContext v.toNat s = some x → x.inFlight = some i →
      (i.seq ≠ seq → x.queued.any (Queued.bears seq) = false →
        exec (.done v seq result carrier) s = .next
          { s with flc := { s.flc with unmatchedTotal := min (s.flc.unmatchedTotal + 1) 65535 } }) ∧
      ((i.seq = seq ∧ (result ∉ i.cmd.results ∨ (i.cmd = .load ∧ result = 0 ∧ carrier = 0))) ∨
          (i.seq ≠ seq ∧ x.queued.any (Queued.bears seq) = true ∧ result ∉ FeederCmd.halt.results) →
        exec (.done v seq result carrier) s = .next (countFormatError v.toNat s) ∧
        findContext v.toNat (countFormatError v.toNat s) = some x))

/-- A LOAD that ends OK lowers the source port's count and makes the job CARRYING with the carrier reported and the
vehicle LADEN (R31, R59, R71): toward a local destination; toward X for another bay, with an ask list entry whose
first ASK goes out, or which is HELD with PEER_DOWN where none may (R35, R141, R143); or, where the job names another
carrier, redirected to the fallback port with MISMATCH (R31, R36). One that ends EMPTY_PORT empties the source port,
returns the job to WAITING without its reservation and releases the vehicle, with PORT_MISMATCH. -/
def Obligations.LoadDoneCarriesOrReleases : Prop :=
  ∀ (v : Half) (carrier : Triple) (x : Context) (i : InFlight) (r : Vehicle) (j : Job) (a : AskEntry)
      (p q st f : Nat) (s : State),
    s.held = false → Settled s → vehicleInRange v.toNat = true → findContext v.toNat s = some x →
    x.inFlight = some i → x.queued = none → i.cmd = .load → findVehicle v.toNat s = some r → r.state = .loading →
    r.currentJob = some j.tag → findJob j.tag s = some j → j.source = .port p → p < 48 →
    (carrier ≠ 0 → j.dest = .here q → j.mismatch carrier.toNat = false →
      ∃ t, exec (.done v i.seq 0 carrier) s = .next t ∧ OnlyTouches [.jt, .pt, .vr, .flc, .dsp] s t ∧
        OthersKept [v.toNat] [j.tag] [p] s t ∧
        t.pt = (modifyPort p (fun y => { y with occupied := y.occupied - 1 }) s).pt ∧
        t.jt = (modifyJob j.tag (fun y => { y with state := .carrying, carrier := carrier.toNat }) s).jt ∧
        t.vr = (modifyVehicle v.toNat (fun y =>
          { y.enter .laden with laden := some carrier.toNat, target := some (getPort q s).position }) s).vr ∧
        findContext v.toNat t = some
          { vehicle := v.toNat
            inFlight := some
              { cmd := .goto (getPort q s).position, seq := (getLink v.toNat s).nextSeq,
                deadline := limitEnd v.toNat (.goto (getPort q s).position) s, haltSent := false, latest := true }
            queued := none }) ∧
    (carrier ≠ 0 → j.dest = .remote st q → j.mismatch carrier.toNat = false → findAsk j.tag s = none →
      s.hu.askList.length ≤ 24 → s.pbc.txQueue.length < 8 →
      a = { tag := j.tag, vehicle := v.toNat, station := st, port := q, askSeq := none, state := .held,
            retryDeadline := none, admitDeadline := none } →
      ∃ t, exec (.done v i.seq 0 carrier) s = .next t ∧ OnlyTouches [.jt, .pt, .vr, .flc, .dsp, .hu, .pbc] s t ∧
        OthersKept [v.toNat] [j.tag] [p] s t ∧
        t.pt = (modifyPort p (fun y => { y with occupied := y.occupied - 1 }) s).pt ∧
        t.vr = (modifyVehicle v.toNat (fun y =>
          { y.enter .laden with laden := some carrier.toNat, target := some s.cfg.exitPoint }) s).vr ∧
        InFlightAlone v.toNat (.goto s.cfg.exitPoint) s t ∧ t.hu.exitQueue = s.hu.exitQueue ∧
        t.hu.askList.map AskEntry.tag = s.hu.askList.map AskEntry.tag ++ [j.tag] ∧
        (mayAsk st s = true → AskSent a { j with state := .carrying, carrier := carrier.toNat } s t) ∧
        (mayAsk st s = false → t.pbc = s.pbc ∧ findAsk j.tag t = some a ∧
          findJob j.tag t = some
            { j with state := .carrying, carrier := carrier.toNat, holdReason := some .peerDown })) ∧
    (carrier ≠ 0 → j.mismatch carrier.toNat = true → j.vehicle = some (v.toNat, .current) →
      s.cfg.fallback = some f →
      ∃ t, exec (.done v i.seq 0 carrier) s = .next t ∧ OthersKept [v.toNat] [j.tag] [p] s t ∧
        t.cpc = (s.noting [.jobRedirected j.tag j.senderTag v.toNat .mismatch j.dest]).cpc ∧
        (getPort p t).occupied = (getPort p s).occupied - 1 ∧
        findJob j.tag t = some
          { (j.sentTo f (roomFor j f ((getPort f s).occupied - if f = p then 1 else 0) s)) with
            carrier := carrier.toNat } ∧
        ReservationMoved j
          (if roomFor j f ((getPort f s).occupied - if f = p then 1 else 0) s then some f else none) s t ∧
        findVehicle v.toNat t = some
          { r.enter .laden with laden := some carrier.toNat, target := some (getPort f s).position } ∧
        InFlightAlone v.toNat (.goto (getPort f s).position) s t ∧
        t.hu.askList = s.hu.askList.filter (fun e => e.tag ≠ j.tag) ∧
        t.hu.exitQueue.map ExitEntry.vehicle = (s.hu.exitQueue.map ExitEntry.vehicle).filter (· ≠ v.toNat) ∧
        t.cfg = s.cfg ∧ t.cu = s.cu ∧ t.pbc = s.pbc ∧ t.vr.passList = s.vr.passList) ∧
    (r.nextJob = none →
      ∃ t, exec (.done v i.seq 1 carrier) s = .next t ∧ OthersKept [v.toNat] [j.tag] [p] s t ∧
        t.cpc = (s.noting [.portMismatch j.tag j.senderTag p]).cpc ∧ (getPort p t).occupied = 0 ∧
        (findJob j.tag t) = some { (j.toWaiting none) with reservation := none } ∧
        (∀ k < 48, (getPort k t).reserved =
          (getPort k s).reserved - (if j.reservation = some k then 1 else 0)) ∧
        (findVehicle v.toNat t).map (fun y => (y.state, y.currentJob, y.idleSince)) =
          some (.idle, none, some s.now) ∧
        findContext v.toNat t = none ∧ t.hu = s.hu ∧ t.pbc = s.pbc ∧ t.cfg = s.cfg)

/-- An UNLOAD that ends OK raises the port's count and consumes the reservation; a job's last move retires it with
JOB_DONE, or, with rearm, starts it again (R32, R34, R46, R59); with moves left a SINGLE job returns to WAITING, and a
RUN or DEMAND job keeps its vehicle where its next reservation is granted, and else waits with DEST_FULL (R33, R73). A
vehicle released takes up its next job or becomes IDLE (R74). One that ends PORT_FULL redirects the job to the
fallback port (R36, R37), or, at the fallback port itself, fails it with NO_DROP and faults the vehicle with its
carrier (R37, R60). -/
def Obligations.UnloadDoneFinishesMove : Prop :=
  ∀ (v : Half) (x : Context) (i : InFlight) (r : Vehicle) (j n : Job) (p d f : Nat) (s : State),
    s.held = false → Settled s → vehicleInRange v.toNat = true → findContext v.toNat s = some x →
    x.inFlight = some i → x.queued = none → i.cmd = .unload → findVehicle v.toNat s = some r →
    r.state = .unloading → r.currentJob = some j.tag → findJob j.tag s = some j →
    j.vehicle = some (v.toNat, .current) → j.dest = .here p → p < 48 → r.nextJob ≠ some j.tag →
    (∃ t, exec (.done v i.seq 0 0) s = .next t ∧ OthersKept [v.toNat] (j.tag :: r.nextJob.toList) [p] s t ∧
      (getPort p t).occupied = min ((getPort p s).occupied + 1) (getPort p s).capacity ∧
      t.hu = s.hu ∧ t.pbc = s.pbc ∧ t.cfg = s.cfg ∧ (findVehicle v.toNat t).map Vehicle.laden = some none ∧
      (j.count = 1 → j.rearm = false →
        t.cpc = (s.noting [.jobDone j.tag j.senderTag v.toNat (min (j.movesDone + 1) 65535)]).cpc ∧
        ReservationMoved j none s t ∧ findJob j.tag t = none ∧ t.cu.quiet = false) ∧
      (j.count = 1 → j.rearm = true →
        t.cpc = s.cpc ∧ ReservationMoved j none s t ∧ t.cu.quiet = s.cu.quiet ∧
        findJob j.tag t = some
          { (j.toWaiting none) with
            count := j.reload
            age := 0
            callBarred := false
            movesDone := min (j.movesDone + 1) 65535
            dest := j.originalDest.getD j.dest
            originalDest := none
            reservation := none }) ∧
      (2 ≤ j.count → j.mode = .single →
        t.cpc = s.cpc ∧ ReservationMoved j none s t ∧
        findJob j.tag t = some
          { (j.toWaiting none) with
            count := j.count - 1
            movesDone := min (j.movesDone + 1) 65535
            dest := j.originalDest.getD j.dest
            originalDest := none
            reservation := none }) ∧
      (j.count = 1 ∨ j.mode = .single →
        (r.nextJob = none →
          (findVehicle v.toNat t).map (fun y => (y.state, y.currentJob, y.target, y.idleSince)) =
            some (.idle, none, none, some s.now)) ∧
        (r.nextJob = some n.tag → findJob n.tag s = some n →
          (findVehicle v.toNat t).map (fun y => (y.state, y.currentJob, y.nextJob, y.target)) =
            some (.toPickup, some n.tag, none, some (pickupPosition n s)) ∧
          InFlightAlone v.toNat (.goto (pickupPosition n s)) s t ∧
          (findJob n.tag t).map Job.vehicle = some (some (v.toNat, .current)))) ∧
      (2 ≤ j.count → j.mode ≠ .single → j.originalDest.getD j.dest = .here d →
        t.cpc = s.cpc ∧
        (roomFor j d (if d = p then min ((getPort p s).occupied + 1) (getPort p s).capacity else (getPort d s).occupied)
            s = true →
          ReservationMoved j (some d) s t ∧
          findJob j.tag t = some
            { j with
              count := j.count - 1
              movesDone := min (j.movesDone + 1) 65535
              dest := .here d
              originalDest := none
              state := .assigned
              holdReason := none
              reservation := some d } ∧
          findVehicle v.toNat t = some
            { r.enter .toPickup with laden := none, nextJob := none, target := some (pickupPosition j s) } ∧
          InFlightAlone v.toNat (.goto (pickupPosition j s)) s t) ∧
        (roomFor j d (if d = p then min ((getPort p s).occupied + 1) (getPort p s).capacity else (getPort d s).occupied)
            s = false →
          ReservationMoved j none s t ∧
          findJob j.tag t = some
            { (j.toWaiting (some .destFull)) with
              count := j.count - 1
              movesDone := min (j.movesDone + 1) 65535
              dest := .here d
              originalDest := none
              reservation := none } ∧
          (r.nextJob = none →
            (findVehicle v.toNat t).map (fun y => (y.state, y.currentJob, y.target, y.idleSince)) =
              some (.idle, none, none, some s.now))))) ∧
    (s.cfg.fallback = some f → f ≠ p →
      ∃ t, exec (.done v i.seq 2 0) s = .next t ∧ OthersKept [v.toNat] [j.tag] [p] s t ∧
        t.cpc = (s.noting [.jobRedirected j.tag j.senderTag v.toNat .portFull j.dest]).cpc ∧
        (getPort p t).occupied = (getPort p s).capacity ∧
        findJob j.tag t = some (j.sentTo f (roomFor j f (getPort f s).occupied s)) ∧
        ReservationMoved j (if roomFor j f (getPort f s).occupied s then some f else none) s t ∧
        findVehicle v.toNat t = some { r.enter .laden with target := some (getPort f s).position } ∧
        InFlightAlone v.toNat (.goto (getPort f s).position) s t ∧
        t.cfg = s.cfg ∧ t.cu = s.cu ∧ t.pbc = s.pbc ∧ t.vr.passList = s.vr.passList) ∧
    (s.cfg.fallback = some p →
      ∃ t, exec (.done v i.seq 2 0) s = .next t ∧ OthersKept [v.toNat] (j.tag :: r.nextJob.toList) [p] s t ∧
        t.cpc = (s.noting
          [.jobFailed j.tag j.senderTag v.toNat .noDrop j.carrier, .vehicleFault v.toNat .noDrop]).cpc ∧
        (getPort p t).occupied = (getPort p s).capacity ∧ findJob j.tag t = none ∧
        (findVehicle v.toNat t).map (fun y => (y.state, y.faultReason, y.laden, y.currentJob)) =
          some (.faulted, some .noDrop, r.laden, none))

/-- The end of a GOTO, an ADOPT or a HALT. A GOTO that serves the record's present state and ends OK is the arrival at
the source (R57, R71), at the drop (R72), or at X, where the vehicle joins the exit queue and, first in it with leave
to go, is sent LEAVE (R72, R79, R148, R149); any other that ends OK moves the position alone (R70, R86). ADOPT
confirms the owner (R85). HALT, and a GOTO or LEAVE halted by this station or superseded, end alone (R70, R94). After
each of these ends that is no arrival a queued command goes in flight, and a HALT already sent moves up (R93, R94);
then a departing vehicle drives to X (R79). Without a record a command only ends (R88); that it only ends for a record
in EXPECTED or LOST too is the model's reading (log 38). -/
def Obligations.GotoAdoptAndHaltEnd : Prop :=
  ∀ (v : Half) (result : Byte) (carrier : Triple) (x : Context) (i : InFlight) (r : Vehicle) (j : Job) (l : Lend)
      (q : BitVec 4) (p k st d : Nat) (s : State),
    s.held = false → Settled s → vehicleInRange v.toNat = true → findContext v.toNat s = some x →
    x.inFlight = some i →
    (result ∈ i.cmd.results → ¬ (i.cmd = .load ∧ carrier = 0) →
      findVehicle v.toNat s = none ∨ (findVehicle v.toNat s = some r ∧ r.state.owned = false) →
      ∃ t, exec (.done v i.seq result carrier) s = .next t ∧ OnlyTouches [.flc] s t ∧
        OthersKept [v.toNat] [] [] s t ∧ MovedUp v.toNat x s t) ∧
    (findVehicle v.toNat s = some r → r.state.owned = true → r.drained →
      (i.cmd = .goto k →
        ¬ (i.latest = true ∧ r.target = some k) ∨
          (r.state ≠ .toPickup ∧ r.state ≠ .laden ∧ r.state ≠ .departing) →
        ∃ t, exec (.done v i.seq 0 carrier) s = .next t ∧ OnlyTouches [.vr, .flc] s t ∧
          OthersKept [v.toNat] [] [] s t ∧ MovedUp v.toNat x s t ∧
          t.vr = (modifyVehicle v.toNat (fun y => { y with position := some k }) s).vr) ∧
      (i.cmd = .adopt →
        ∃ t, exec (.done v i.seq 0 carrier) s = .next t ∧ OnlyTouches [.vr, .flc] s t ∧
          OthersKept [v.toNat] [] [] s t ∧ MovedUp v.toNat x s t ∧
          t.vr = (modifyVehicle v.toNat (fun y => { y with ownerConfirmed := true }) s).vr) ∧
      ((i.cmd = .halt ∧ result = 0) ∨
          (i.cmd = .goto k ∧ result = 5 ∧ (i.haltSent = true ∨ ¬ (i.latest = true ∧ r.target = some k))) ∨
          (i.cmd = .leave k ∧ result = 5 ∧ (i.haltSent = true ∨ r.state ≠ .holding)) ∨
          (i.cmd = .leave k ∧ result = 0 ∧ r.state ≠ .holding) →
        ∃ t, exec (.done v i.seq result carrier) s = .next t ∧ OnlyTouches [.flc] s t ∧
          OthersKept [v.toNat] [] [] s t ∧ MovedUp v.toNat x s t) ∧
      (x.queued = some (.haltSent q d) → i.seq ≠ q → i.cmd = .goto k → i.haltSent = true →
        exec (.done v q 0 carrier) s = .next (s.contextFreed v.toNat))) ∧
    (findVehicle v.toNat s = some r → r.state.owned = true → x.queued = some (.haltSent q d) →
      r.state = .departing → r.target = none →
      (i.cmd = .goto k ∧ (result = 0 ∨ result = 5)) ∨ (i.cmd = .halt ∧ result = 0) →
      ∃ t, exec (.done v i.seq result carrier) s = .next t ∧ OnlyTouches [.vr, .flc] s t ∧
        OthersKept [v.toNat] [] [] s t ∧ t.flc.sent = s.flc.sent ∧
        (findContext v.toNat t).bind (fun y => y.inFlight.map fun h => (h.cmd, h.seq, h.deadline)) =
          some (.halt, q, d) ∧
        (findContext v.toNat t).bind Context.queued = some (.waiting (.goto s.cfg.exitPoint)) ∧
        t.vr = (modifyVehicle v.toNat (fun y =>
          { y with
            position := if i.cmd = .goto k ∧ result = 0 then some k else y.position
            target := some s.cfg.exitPoint }) s).vr) ∧
    (findVehicle v.toNat s = some r → r.state.owned = true → x.queued = none →
      (r.state = .departing → r.target = none →
        (i.cmd = .goto k ∧ (result = 0 ∨ result = 5)) ∨ (i.cmd = .halt ∧ result = 0) →
        ∃ t, exec (.done v i.seq result carrier) s = .next t ∧ OnlyTouches [.vr, .flc] s t ∧
          OthersKept [v.toNat] [] [] s t ∧ InFlightAlone v.toNat (.goto s.cfg.exitPoint) s t ∧
          t.vr = (modifyVehicle v.toNat (fun y =>
            { y with
              position := if i.cmd = .goto k ∧ result = 0 then some k else y.position
              target := some s.cfg.exitPoint }) s).vr) ∧
      (i.cmd = .goto k → i.latest = true → r.target = some k →
        (r.currentJob = some j.tag → findJob j.tag s = some j →
          (r.state = .toPickup → j.source = .port p → p < 48 →
            ((getPort p s).ready = true →
              ∃ t, exec (.done v i.seq 0 carrier) s = .next t ∧ OnlyTouches [.jt, .vr, .flc] s t ∧
                OthersKept [v.toNat] [j.tag] [] s t ∧ InFlightAlone v.toNat .load s t ∧
                t.jt = (modifyJob j.tag (fun y => { y with state := .loading, holdReason := none }) s).jt ∧
                t.vr = (modifyVehicle v.toNat (fun y => { y.enter .loading with position := some k }) s).vr) ∧
            ((getPort p s).ready = false → j.mode ≠ .demand →
              exec (.done v i.seq 0 carrier) s = .next
                (modifyPort p (fun y =>
                    { y with
                      waitList := y.waitList ++
                        [{ tag := j.tag, deadline := s.deadlineIn (s.cfg.portWait * 1000) }] })
                  (modifyVehicle v.toNat (fun y => { y with position := some k }) (s.contextFreed v.toNat)))) ∧
            ((getPort p s).ready = false → j.mode = .demand → r.nextJob = none →
              ∃ t, exec (.done v i.seq 0 carrier) s = .next t ∧ OthersKept [v.toNat] [j.tag] [] s t ∧
                t.cpc = s.cpc ∧ t.cfg = s.cfg ∧ t.hu = s.hu ∧ t.pbc = s.pbc ∧ t.vr.passList = s.vr.passList ∧
                findContext v.toNat t = none ∧ ReservationMoved j none s t ∧
                findJob j.tag t = some { j with state := .paused, vehicle := none, reservation := none } ∧
                (findVehicle v.toNat t).map (fun y => (y.state, y.currentJob, y.position, y.idleSince)) =
                  some (.idle, none, some k, some s.now))) ∧
          (r.state = .laden → j.dest = .here p →
            ∃ t, exec (.done v i.seq 0 carrier) s = .next t ∧ OnlyTouches [.vr, .flc] s t ∧
              OthersKept [v.toNat] [] [] s t ∧ InFlightAlone v.toNat .unload s t ∧
              t.vr = (modifyVehicle v.toNat (fun y => { y.enter .unloading with position := some k }) s).vr) ∧
          (r.state = .laden → r.lend = none → j.dest = .remote st p →
            (∀ e ∈ s.hu.exitQueue, e.vehicle ≠ v.toNat) →
            ∃ t, exec (.done v i.seq 0 carrier) s = .next t ∧ OnlyTouches [.jt, .vr, .flc, .hu] s t ∧
              OthersKept [v.toNat] [j.tag] [] s t ∧
              t.jt = (modifyJob j.tag (fun y => { y with state := .holding }) s).jt ∧
              t.vr = (modifyVehicle v.toNat (fun y => { y.enter .holding with position := some k }) s).vr ∧
              t.hu.askList = s.hu.askList.map (fun e =>
                if e.tag = j.tag ∧ e.state ≠ .granted then
                  { e with
                    admitDeadline := some (e.admitDeadline.getD (s.deadlineIn (s.cfg.admitWait * 1000))) }
                else e) ∧
              (((findAsk j.tag s).any fun e => e.state == .granted) = false →
                findContext v.toNat t = none ∧
                t.hu.exitQueue = s.hu.exitQueue ++
                  [{ vehicle := v.toNat, lent := false, mayLeave := false, leaveSent := false }]) ∧
              (((findAsk j.tag s).any fun e => e.state == .granted) = true →
                t.hu.exitQueue = s.hu.exitQueue ++
                  [{ vehicle := v.toNat, lent := false, mayLeave := true, leaveSent := s.hu.exitQueue.isEmpty }] ∧
                (s.hu.exitQueue = [] → InFlightAlone v.toNat (.leave st) s t) ∧
                (s.hu.exitQueue ≠ [] → findContext v.toNat t = none)))) ∧
        (r.state = .departing → r.lend = some l → (∀ e ∈ s.hu.exitQueue, e.vehicle ≠ v.toNat) →
          ∃ t, exec (.done v i.seq 0 carrier) s = .next t ∧ OnlyTouches [.vr, .flc, .hu] s t ∧
            OthersKept [v.toNat] [] [] s t ∧ t.hu.askList = s.hu.askList ∧
            t.vr = (modifyVehicle v.toNat (fun y => { y.enter .holding with position := some k }) s).vr ∧
            t.hu.exitQueue = s.hu.exitQueue ++
              [{ vehicle := v.toNat, lent := true, mayLeave := true, leaveSent := s.hu.exitQueue.isEmpty }] ∧
            (s.hu.exitQueue = [] → InFlightAlone v.toNat (.leave l.caller) s t) ∧
            (s.hu.exitQueue ≠ [] → findContext v.toNat t = none))))

/-- ENTRY of an EXPECTED vehicle ends its inbound part, stands it at position 0, requests ADOPT and behind it the GOTO
of its kind, and is bay activity (R82): a lent vehicle goes to its job's source or becomes IDLE, a laden one makes its
job CARRYING and goes to the destination. Any other ENTRY is discarded, and in CONFIG every one. A lent vehicle's
taken-call entry ends (R126); it is found by the call id and the vehicle together, the model's reading (log 58). -/
def Obligations.EntryAdoptsExpectedVehicle : Prop :=
  ∀ (v : Half) (r : Vehicle) (i : Inbound) (id : CallId) (q : Byte) (j : Job) (s : State),
    s.held = false → Settled s → vehicleInRange v.toNat = true →
    (s.cpc.level = .config ∨ findVehicle v.toNat s = none → exec (.entry v) s = .next s) ∧
    (findVehicle v.toNat s = some r → r.state ≠ .expected → exec (.entry v) s = .next s) ∧
    (s.cpc.level ≠ .config → findVehicle v.toNat s = some r → r.state = .expected → r.inbound = some i →
      findContext v.toNat s = none →
      ∃ t, exec (.entry v) s = .next t ∧ OthersKept [v.toNat] r.currentJob.toList [] s t ∧ t.cpc = s.cpc ∧
        t.pt = s.pt ∧ t.hu = s.hu ∧ t.pbc = s.pbc ∧ t.cfg = s.cfg ∧
        (findVehicle v.toNat t).map (fun x => (x.inbound, x.position, x.lastStatus, x.ownerConfirmed)) =
          some (none, some 0, some s.now, r.ownerConfirmed) ∧
        (findContext v.toNat t).bind (fun x => x.inFlight.map InFlight.cmd) = some .adopt ∧
        t.cu.quiet = false ∧ t.cu.incoming = s.cu.incoming ∧
        (i.ref = .lent id → t.cu.takenCalls = s.cu.takenCalls.filter fun x => !x.isFor id v.toNat) ∧
        (i.ref = .lent id → r.currentJob = none → t.jt = s.jt ∧
          (findVehicle v.toNat t).map Vehicle.state = some .idle) ∧
        (i.ref = .lent id → r.currentJob = some j.tag → findJob j.tag s = some j → t.jt = s.jt ∧
          (findVehicle v.toNat t).map Vehicle.state = some .toPickup ∧
          (findContext v.toNat t).bind Context.queued = some (.waiting (.goto (pickupPosition j s)))) ∧
        (i.ref = .laden q → r.currentJob = some j.tag → findJob j.tag s = some j →
          t.jt = (modifyJob j.tag (fun x => { x with state := .carrying }) s).jt ∧
          t.cu.takenCalls = s.cu.takenCalls ∧
          (findVehicle v.toNat t).map Vehicle.state = some .laden ∧
          (findContext v.toNat t).bind Context.queued = some (.waiting (.goto (dropPosition j s)))))

/-- The EXIT of a HOLDING vehicle that was sent LEAVE, or the OK of that LEAVE, removes its record, its commands and
its place in the exit queue; a laden one's job retires HANDED with JOB_HANDED, and in RUN a HANDOFF goes to the
receiving station or the caller (R35, R80, R150, R151). Any other EXIT only takes the vehicle off the pass list (R84),
and in CONFIG it does nothing. That a HOLDING vehicle's EXIT before its LEAVE does no more is the model's reading (log
33). -/
def Obligations.ExitRemovesVehicleAndHandsOver : Prop :=
  ∀ (v : Half) (carrier : Triple) (r : Vehicle) (e : ExitEntry) (l : Lend) (j : Job) (a : AskEntry) (x : Context)
      (i : InFlight) (k st port : Nat) (q : Byte) (s : State),
    s.held = false → Settled s → vehicleInRange v.toNat = true →
    (s.cpc.level = .config → exec (.exit v) s = .next s) ∧
    (s.cpc.level ≠ .config →
      findExit v.toNat s = none ∨ (findExit v.toNat s = some e ∧ e.leaveSent = false) ∨
        findVehicle v.toNat s = none ∨ (findVehicle v.toNat s = some r ∧ r.state ≠ .holding) →
      exec (.exit v) s = .next
        { s with vr := { s.vr with passList := s.vr.passList.filter fun x => x.vehicle ≠ v.toNat } }) ∧
    (s.cpc.level ≠ .config → findVehicle v.toNat s = some r → r.state = .holding → findExit v.toNat s = some e →
      e.leaveSent = true → s.pbc.txQueue.length < 8 →
      (findContext v.toNat s = some x → x.inFlight = some i → i.cmd = .leave k → x.queued = none →
        onPassList v.toNat s = false → exec (.done v i.seq 0 carrier) s = exec (.exit v) s) ∧
      ∃ t, exec (.exit v) s = .next t ∧ findVehicle v.toNat t = none ∧ findContext v.toNat t = none ∧
        onPassList v.toNat t = false ∧
        t.hu.exitQueue.map ExitEntry.vehicle = (s.hu.exitQueue.map ExitEntry.vehicle).filter (· ≠ v.toNat) ∧
        t.cfg = s.cfg ∧ t.cu.incoming = s.cu.incoming ∧
        (r.lend = some l →
          OthersKept [v.toNat] [] [] s t ∧ t.jt = s.jt ∧ t.pt = s.pt ∧ t.cpc = s.cpc ∧ t.hu.askList = s.hu.askList ∧
          (s.cpc.level = .run → InTxQueue
            { target := BitVec.ofNat 8 l.caller, payload := .handoffLent v l.call } t) ∧
          (s.cpc.level = .isolated → t.pbc = s.pbc)) ∧
        (r.lend = none → r.currentJob = some j.tag → findJob j.tag s = some j → j.dest = .remote st port →
          findJob j.tag t = none ∧ t.cpc = (s.noting [.jobHanded j.tag j.senderTag v.toNat st]).cpc ∧
          (j.vehicle = some (v.toNat, .current) → OthersKept [v.toNat] [j.tag] [] s t) ∧
          t.hu.askList = s.hu.askList.filter (fun x => x.tag ≠ j.tag) ∧ t.cu.quiet = false ∧
          (s.cpc.level = .isolated → t.pbc = s.pbc) ∧
          (s.cpc.level = .run → findAsk j.tag s = some a → a.askSeq = some q → InTxQueue
            { target := BitVec.ofNat 8 st
              payload := .handoffLaden v q (BitVec.ofNat 16 j.tag) (BitVec.ofNat 24 j.carrier)
                (BitVec.ofNat 3 j.cls) (BitVec.ofNat 8 j.age) (BitVec.ofNat 8 j.mode.code) (BitVec.ofNat 8 port)
                (BitVec.ofNat 16 j.movesDone) } t)))

/-! ### Deadlines and the Dispatcher's decision -/

/-- When the time limit of the command in flight, or of a queued HALT, passes, the owned record faults with
COMMAND_TIMEOUT and is taken out of service (R75, R76, R97). A DONE with a result that fails the record faults it
likewise, with the reason of that result (R75, R96); so does the DONE of a queued HALT: with COMMAND_TIMEOUT where the
command in flight, whose own DONE was lost, is not marked halt sent, and with REFUSED where it is and the HALT was
refused (R94). An expiry that is not due has no effect, and a number that both bear ends the command in flight (the
model's, logs 2 and 52). -/
def Obligations.CommandTimeLimitFaultsVehicle : Prop :=
  ∀ (v : VehicleNo) (carrier : Triple) (x : Context) (i : InFlight) (r : Vehicle) (j n : Job) (result : Byte)
      (reason : FaultReason) (q : BitVec 4) (d k : Nat) (s : State),
    s.held = false → Settled s → findContext v.toNat s = some x → x.inFlight = some i →
    (s.now < i.deadline → x.queued.any Queued.isHalt = false →
      exec (.commandTimeLimitExpiry v) s = .next s) ∧
    (s.now < i.deadline → x.queued = some (.haltSent q d) → s.now < d →
      exec (.commandTimeLimitExpiry v) s = .next s) ∧
    (findVehicle v.toNat s = some r → r.state.owned = true → r.state ≠ .faulted →
      (i.deadline ≤ s.now ∨ (x.queued = some (.haltSent q d) ∧ d ≤ s.now) →
        ∃ t, exec (.commandTimeLimitExpiry v) s = .next t ∧
          (findVehicle v.toNat t).map (fun y => (y.state, y.faultReason, y.position, y.ownerConfirmed)) =
            some (.faulted, some .commandTimeout, r.position, r.ownerConfirmed) ∧
          TakenFromService v.toNat r j n (.vehicleFault v.toNat .commandTimeout) s t) ∧
      (vehicleInRange v.toNat = true → i.faults r result = some reason →
        ∃ t, exec (.done (v.setWidth 16) i.seq result carrier) s = .next t ∧
          (findVehicle v.toNat t).map (fun y => (y.state, y.faultReason, y.position, y.ownerConfirmed)) =
            some (.faulted, some reason, r.position, r.ownerConfirmed) ∧
          TakenFromService v.toNat r j n (.vehicleFault v.toNat reason) s t) ∧
      (vehicleInRange v.toNat = true → x.queued = some (.haltSent q d) → i.seq ≠ q →
        (i.haltSent = false ∧ (result = 0 ∨ result = 6) ∧ reason = .commandTimeout) ∨
          (i.haltSent = true ∧ i.cmd = .goto k ∧ result = 6 ∧ reason = .refused) →
        ∃ t, exec (.done (v.setWidth 16) q result carrier) s = .next t ∧
          (findVehicle v.toNat t).map (fun y => (y.state, y.faultReason, y.position, y.ownerConfirmed)) =
            some (.faulted, some reason, r.position, r.ownerConfirmed) ∧
          TakenFromService v.toNat r j n (.vehicleFault v.toNat reason) s t))

/-- When StatusTimeout passes after the last accepted STATUS, the owned record becomes LOST with its prior state and a
LostHold deadline, and is taken out of service (R67, R68). An expiry that is not due has no effect (the model's
reading, log 2). -/
def Obligations.StatusSilenceLosesVehicle : Prop :=
  ∀ (v : VehicleNo) (r : Vehicle) (j n : Job) (since : Nat) (s : State),
    s.held = false → Settled s → findVehicle v.toNat s = some r → r.lastStatus = some since →
    (s.now < since + s.cfg.statusTimeout → exec (.statusTimeoutExpiry v) s = .next s) ∧
    (r.state = .expected ∨ r.state = .lost → exec (.statusTimeoutExpiry v) s = .next s) ∧
    (r.state.owned = true → since + s.cfg.statusTimeout ≤ s.now →
      ∃ t, exec (.statusTimeoutExpiry v) s = .next t ∧
        (findVehicle v.toNat t).map (fun y => (y.state, y.prior, y.position, y.faultReason, y.lostHold)) =
          some (.lost, some { state := r.state, abandoned := (findContext v.toNat s).isSome }, r.position, none,
            some (s.deadlineIn (s.cfg.lostHold * 1000))) ∧
        TakenFromService v.toNat r j n (.vehicleLost v.toNat .statusSilence) s t)

/-- When LostHold passes the record is removed with VEHICLE_LOST (R69); 600000 ms after its PASS a vehicle leaves the
pass list (R84). An expiry that is not due has no effect (the model's reading, log 2). -/
def Obligations.LostHoldAndPassListExpire : Prop :=
  ∀ (v : VehicleNo) (r : Vehicle) (d : Nat) (s : State),
    s.held = false → Settled s →
    (findVehicle v.toNat s = some r → r.state = .lost → r.lostHold = some d →
      (s.now < d → exec (.lostHoldExpiry v) s = .next s) ∧
      (d ≤ s.now → exec (.lostHoldExpiry v) s = .next
        (State.noting [.vehicleLost v.toNat .lostHoldExpired]
          { s with vr := { s.vr with records := s.vr.records.filter fun x => x.vehicle ≠ v.toNat } }))) ∧
    exec (.passListExpiry v) s = .next
      { s with vr := { s.vr with passList := s.vr.passList.filter fun e =>
        ¬ (e.vehicle = v.toNat ∧ e.sentAt + 600000 ≤ s.now) } }

/-- When ParkDelay passes for an IDLE record, the free park slot with the least forward distance is taken, the lower
slot number between equals, and the vehicle is sent there; with no free slot the delay starts again (R86, R114). An
expiry that is not due has no effect (the model's reading, log 2). -/
def Obligations.ParkDelaySendsToNearestFreeSlot : Prop :=
  ∀ (v : VehicleNo) (r : Vehicle) (d k q : Nat) (s : State),
    s.held = false → Settled s → findVehicle v.toNat s = some r → r.parkDeadline = some d →
    (s.now < d → exec (.parkDelayExpiry v) s = .next s) ∧
    (d ≤ s.now → r.state ≠ .idle ∨ r.isIdle = false → exec (.parkDelayExpiry v) s = .next s) ∧
    (d ≤ s.now → r.state = .idle → r.isIdle = true →
      (∀ i < 8, s.cfg.park.getD i none = none ∨ (parkOccupant i s).isSome = true) →
      exec (.parkDelayExpiry v) s = .next
        (modifyVehicle v.toNat
          (fun x => { x with parkDeadline := some (s.deadlineIn (s.cfg.parkDelay * 1000)) }) s)) ∧
    (d ≤ s.now → r.state = .idle → r.isIdle = true → (s.vr.records.map Vehicle.vehicle).Nodup → k < 8 →
      s.cfg.park.getD k none = some q → parkOccupant k s = none →
      (∀ i < 8, ∀ a ∈ s.cfg.park.getD i none, parkOccupant i s = none →
        s.dist r.pos q < s.dist r.pos a ∨ (s.dist r.pos q = s.dist r.pos a ∧ k ≤ i)) →
      ∃ t, exec (.parkDelayExpiry v) s = .next t ∧ OnlyTouches [.vr, .flc] s t ∧ OthersKept [v.toNat] [] [] s t ∧
        t.vr = (modifyVehicle v.toNat
          (fun x => { x.enter .parking with parkSlot := some k, target := some q }) s).vr ∧
        (findContext v.toNat s = none →
          (findContext v.toNat t).bind (fun x => x.inFlight.map InFlight.cmd) = some (.goto q)))

/-- When PortWait passes at the source port, the job returns to WAITING with SOURCE_NOT_READY, its reservation is
released, its wait ends and its vehicle is released (R29, R58, R74). An expiry that is not due has no effect (the
model's reading, log 2). -/
def Obligations.PortWaitReturnsJobToWaiting : Prop :=
  ∀ (tag : Half) (v : Nat) (r : Vehicle) (j : Job) (s : State),
    s.held = false → Settled s →
    (dueWait tag.toNat s = false → exec (.portWaitExpiry tag) s = .next s) ∧
    (dueWait tag.toNat s = true → findJob tag.toNat s = some j → j.vehicle = some (v, .current) →
      findVehicle v s = some r → r.nextJob = none →
      ∃ t, exec (.portWaitExpiry tag) s = .next t ∧ OnlyTouches [.jt, .pt, .vr, .dsp, .cu] s t ∧
        t.jt = (modifyJob j.tag (fun x =>
          { (x.toWaiting (some .sourceNotReady)) with
            reservation := if j.reservation = none then x.reservation else none }) s).jt ∧
        (∀ p < 48, getPort p t =
          { getPort p s with
            reserved := (getPort p s).reserved - (if j.reservation = some p then 1 else 0)
            waitList := (getPort p s).waitList.filter fun w => w.tag ≠ j.tag }) ∧
        t.vr = (modifyVehicle v (fun x =>
          { x.enter .idle with
            currentJob := none
            idleSince := some s.now
            parkDeadline := some (s.deadlineIn (s.cfg.parkDelay * 1000)) }) s).vr)

/-- The aging timer's expiry restarts it, adds 1 to the age of every job in WAITING, CALLING or PAUSED up to 255,
clears every call barred field and every NO_LENDER reason of a WAITING job, and wakes the Dispatcher where it changed
something of the kind R43 names. The quiet timer's expiry sets QUIET, which may open a lending round (R128, R132). An
expiry that is not due has no effect (the model's reading, log 2). -/
def Obligations.AgingAndQuietTimersExpire : Prop :=
  ∀ (s : State),
    s.held = false → Settled s →
    (s.due s.jt.agingDeadline = true → s.cpc.level ≠ .config →
      exec .agingTimerExpiry s = .next
        { s with
          jt :=
            { agingDeadline := some (s.deadlineIn (s.cfg.agingInterval * 1000))
              jobs := s.jt.jobs.map fun j =>
                { j with
                  age :=
                    if j.state = .waiting ∨ j.state = .calling ∨ j.state = .paused then min (j.age + 1) 255 else j.age
                  callBarred := false
                  holdReason :=
                    if j.state = .waiting ∧ j.holdReason = some .noLender then none else j.holdReason } }
          decisionPending := s.decisionPending || s.jt.jobs.any fun j =>
            (j.state == .waiting && j.age < 255) || j.callBarred ||
              (j.state == .waiting && j.holdReason == some .noLender) }) ∧
    (s.due s.jt.agingDeadline = false → exec .agingTimerExpiry s = .next s) ∧
    (s.due s.cu.quietDeadline = true →
      exec .quietTimerExpiry s = .next
        { s with
          cu :=
            { s.cu with
              quiet := true
              quietDeadline := none
              reclaimDeadline :=
                if s.cpc.level = .run ∧ s.cu.reclaimDeadline = none ∧ 0 < idleCount s ∧
                    (∃ e ∈ s.cu.incoming, e.pledge = none) then
                  some (s.deadlineIn s.cfg.reclaimWindow)
                else s.cu.reclaimDeadline } }) ∧
    (s.due s.cu.quietDeadline = false → exec .quietTimerExpiry s = .next s)

/-- A decision over one examined job (R101 to R111). A test that fails gives a WAITING job its hold reason and leaves a
CALLING one alone (R103 to R105). An eligible job is bound to its nearest candidate within reach: it becomes ASSIGNED
with a reservation at a local destination, and a call of its own is closed (R25, R27, R125); an idle candidate becomes
TO_PICKUP with a GOTO to the source, sent HALT first where it was PARKING (R109), and a chain candidate takes it as its
next job (R110). With none within reach it is handed to the Call Unit: it takes NO_LENDER with no lender in sight, is
left as it is without a call place or an open gate, and else opens a call (R118), whose CALL joins the transmit queue,
at a full one displaces the last frame, or, behind that frame's key, is discarded, so that the call waits to retry
(R119, R124, R164). With nothing to examine the decision only clears the mark, and without the mark there is none. The
slot of the call is the model's choice (log 18), the mark of a command superseded its own field (log 15). -/
def Obligations.DecisionBindsNearestVehicleOrCalls : Prop :=
  ∀ (j : Job) (reason : HoldReason) (v : Nat) (r : Vehicle) (own : Option OwnCall) (c : OwnCall) (f w : TxFrame)
      (s : State),
    s.held = false → Settled s → s.cpc.level ≠ .config →
    (s.decisionPending = false → exec .dispatchDecision s = .next s) ∧
    (s.decisionPending = true → s.jt.jobs.all (fun k => !servable k s) = true →
      exec .dispatchDecision s = .next { s with decisionPending := false }) ∧
    (s.decisionPending = true → s.jt.jobs.filter (fun k => servable k s) = [j] → findJob j.tag s = some j →
      (FailsTest j [] s reason →
        exec .dispatchDecision s = .next
          (State.setPending false
            (modifyJob j.tag (fun x => if j.state = .waiting then { x with holdReason := some reason } else x) s))) ∧
      (Eligible j [] s → NearestInReach j [] r s → r.vehicle = v → (s.vr.records.map Vehicle.vehicle).Nodup →
        (s.jt.jobs.map Job.tag).Nodup → j.reservation = none → s.cu.ownCalls.find? (fun x => x.tag == j.tag) = own →
        own = none ∨ s.pbc.txQueue.length < 8 →
        ∃ t, exec .dispatchDecision s = .next t ∧ OnlyTouches [.jt, .pt, .vr, .flc, .dsp, .cu, .pbc] s t ∧
          OthersKept [v] [j.tag] [] s t ∧
          t.jt = (modifyJob j.tag (Job.boundTo r) s).jt ∧
          t.vr = (modifyVehicle v (Vehicle.boundTo j.tag (pickupPosition j s)) s).vr ∧
          SentToPickup r (pickupPosition j s) s t ∧
          (∀ p < 48, getPort p t =
            { getPort p s with reserved := (getPort p s).reserved + (if j.dest = .here p then 1 else 0) }) ∧
          (t.decisionPending = true ↔ j.dest.isRemote = false ∨ own.isSome = true) ∧
          (own = none → t.cu = s.cu ∧ t.pbc = s.pbc) ∧
          (own = some c →
            t.cu = { s.cu with ownCalls := s.cu.ownCalls.filter fun x => x.slot ≠ c.slot } ∧
            (s.cpc.level ≠ .isolated → t.pbc = s.busWith [{ target := 63, payload := .close c.id }]))) ∧
      (Eligible j [] s → NoneInReach j [] s →
        (¬ (MayBeHandedOn j s ∧ placeFree s = true ∧ gateOpen j.cls s = true) → (s.jt.jobs.map Job.tag).Nodup →
          exec .dispatchDecision s = .next (State.setPending false (modifyJob j.tag Job.leftEligible s))) ∧
        (MayBeHandedOn j s → placeFree s = true → gateOpen j.cls s = true → someLender s = false →
          exec .dispatchDecision s = .next
            (State.setPending true (modifyJob j.tag (fun x => { x with holdReason := some .noLender }) s))) ∧
        (MayBeHandedOn j s → placeFree s = true → gateOpen j.cls s = true → someLender s = true →
          c = newCall j s → f = c.frame s →
          (s.cu.ownCalls.all fun c => c.tag != j.tag) = true →
          (s.pbc.txQueue.length < 8 ∨
            (s.pbc.txQueue.length = 8 ∧ s.pbc.txQueue.getLast? = some w ∧
              (w.order ≤ f.order ∧ 0 < s.cfg.callRetries ∨ f.order < w.order ∧ w.payload.kind ≠ 10)) →
            ∃ t, exec .dispatchDecision s = .next t ∧ OnlyTouches [.cpc, .jt, .dsp, .cu, .pbc] s t ∧
              t.decisionPending = true ∧ t.cu.callSeq = nextCallSeq s + 1 ∧
              t.jt = (modifyJob j.tag (fun x =>
                { x with state := .calling, holdReason := none, callLink := some c.slot }) s).jt ∧
              (s.pbc.txQueue.length < 8 ∨ f.order < w.order →
                t.cu = { s.cu with callSeq := nextCallSeq s + 1, ownCalls := s.cu.ownCalls ++ [c] } ∧
                InTxQueue f t) ∧
              (s.pbc.txQueue.length < 8 → t.cpc = s.cpc ∧ t.pbc.txQueue = joinBehind f s.pbc.txQueue) ∧
              (s.pbc.txQueue.length = 8 → f.order < w.order →
                t.cpc = (s.noting [.txDrop w.payload.kind.toNat w.target]).cpc ∧
                t.pbc.txQueue = joinBehind f s.pbc.txQueue.dropLast) ∧
              (s.pbc.txQueue.length = 8 → w.order ≤ f.order →
                t.cpc = (s.noting [.txDrop 10 f.target]).cpc ∧ t.pbc = s.pbc ∧
                t.cu = { s.cu with
                  callSeq := nextCallSeq s + 1
                  ownCalls := s.cu.ownCalls ++
                    [{ c with
                        state := .retryWait
                        retryDeadline := some (s.deadlineIn s.cfg.callRetryInterval) }] })))))

/-- A decision over any number of jobs. They are examined in urgency order, and by admission between equal urgencies
(R15, R106); each is tested against the places promised to those before it, and takes the nearest vehicle within reach
that none before it has taken, or is marked as wanting a call (R102 to R107). The bindings are carried out in that
order, and then the jobs that want a call are handed on, each to the Call Unit as the bindings and the hand-offs before
it leave it (R108 to R111, R118). Each job examined, each vehicle chosen and each port promised is left as its verdict
says; a CLOSE goes out for each call closed, and then a CALL for each call opened; no other record, context, call or
frame changes. The slots of the calls are the model's choice (log 18), the mark of a command superseded its own field
(log 15). -/
def Obligations.DecisionPassServesJobsInUrgencyOrder : Prop :=
  ∀ (p : Plan) (s : State),
    s.held = false → Settled s → s.cpc.level ≠ .config → s.decisionPending = true → p.OfDecision s →
    (s.jt.jobs.map Job.tag).Nodup → (s.vr.records.map Vehicle.vehicle).Nodup →
    (s.cu.ownCalls.map OwnCall.tag).Nodup → (s.cu.ownCalls.map OwnCall.slot).Nodup →
    (∀ x ∈ p, x.1.reservation = none) →
    s.pbc.txQueue.length + (p.frames s).length ≤ 8 →
    ∃ t, exec .dispatchDecision s = .next t ∧ OnlyTouches [.jt, .pt, .vr, .flc, .dsp, .cu, .pbc] s t ∧
      t.jt = { s.jt with
        jobs := s.jt.jobs.map fun k =>
          match p.find? fun x => x.1.tag == k.tag with
          | some x => x.2.leaves k
          | none => k } ∧
      t.vr = { s.vr with
        records := s.vr.records.map fun r =>
          match p.jobFor r.vehicle with
          | some j => r.boundTo j.tag (pickupPosition j s)
          | none => r } ∧
      (∀ q < 48, getPort q t =
        { getPort q s with reserved := (getPort q s).reserved + p.promised.count q }) ∧
      (∀ x ∈ p, ∀ r ∈ s.vr.records, x.2 = .takes r → SentToPickup r (pickupPosition x.1 s) s t) ∧
      (∀ u, u ∉ p.taken → findContext u t = findContext u s) ∧
      t.cu = (p.callsAt p s).cu ∧ t.pbc = s.busWith (p.frames s) ∧
      (t.decisionPending = true ↔
        p.promised ≠ [] ∨ p.closed s ≠ [] ∨ p.called ≠ [] ∨ ∃ x ∈ p, x.2 = .noLender)

/-- When the window of an OPEN call ends, the best offer is taken where the roster and the Port Table grant it (R122);
where one of them refuses it, nothing of the take is kept, the offer is removed and a CLOSE goes out, and the call goes
on as one without an offer (R123). Without an offer the call waits to retry, or, its retries used up, is exhausted: the
job returns to WAITING with NO_LENDER and call barred, the slot is freed and a CLOSE goes out (R124). That it is a
second CLOSE behind that of R123 is the model's reading (log 44). When its retry deadline passes, a call re-enters OPEN with one more retry used and no offer, its
CALL is queued again with the class and U of its opening, and the Dispatcher is woken (R124). An expiry that is not due
has no effect (the model's reading, log 2). -/
def Obligations.OfferWindowEndTakesRetriesOrExhausts : Prop :=
  ∀ (slot : BitVec 2) (c : OwnCall) (o : BestOffer) (d : Nat) (j : Job) (s : State),
    s.held = false → Settled s → callInSlot slot.toNat s = some c →
    (c.state = .openCall → c.windowDeadline = none ∨ (c.windowDeadline = some d ∧ s.now < d) →
      exec (.offerWindowEnd slot) s = .next s) ∧
    (c.state = .openCall → c.windowDeadline = some d → d ≤ s.now →
      (c.best = some o → TakeGranted c o j s → s.pbc.txQueue.length < 8 →
        ∃ t, exec (.offerWindowEnd slot) s = .next t ∧ OnlyTouches [.jt, .pt, .vr, .dsp, .cu, .pbc] s t ∧
          OfferTaken c o s t ∧
          (∀ p < 48, (getPort p t).reserved =
            (getPort p s).reserved + (if j.dest = .here p then 1 else 0))) ∧
      (c.best = some o → TakeRefused c o j s → s.cpc.level = .run →
        (c.retries < s.cfg.callRetries → s.pbc.txQueue.length < 8 →
          exec (.offerWindowEnd slot) s = .next
            { s with
              cu := (modifyOwnCall slot.toNat (fun x =>
                { x with
                  state := .retryWait, windowDeadline := none, best := none,
                  retryDeadline := some (s.deadlineIn s.cfg.callRetryInterval) }) s).cu
              pbc := s.busWith [{ target := 63, payload := .close c.id }] }) ∧
        (s.cfg.callRetries ≤ c.retries → s.pbc.txQueue.length < 7 →
          ∃ t, exec (.offerWindowEnd slot) s = .next t ∧ OnlyTouches [.cpc, .jt, .dsp, .cu, .pbc] s t ∧
            t.cpc = (s.noting [.noLender c.tag j.senderTag c.id]).cpc ∧ t.decisionPending = true ∧
            t.jt = (modifyJob c.tag (fun x =>
              { (x.toWaiting (some .noLender)) with callBarred := true }) s).jt ∧
            t.cu = { s.cu with ownCalls := s.cu.ownCalls.filter fun x => x.slot ≠ c.slot } ∧
            t.pbc = s.busWith (List.replicate 2 { target := 63, payload := .close c.id }))) ∧
      (c.best = none → c.retries < s.cfg.callRetries →
        exec (.offerWindowEnd slot) s = .next
          (modifyOwnCall slot.toNat (fun x =>
            { x with
              state := .retryWait, windowDeadline := none, best := none,
              retryDeadline := some (s.deadlineIn s.cfg.callRetryInterval) }) s)) ∧
      (c.best = none → s.cfg.callRetries ≤ c.retries → findJob c.tag s = some j → s.cpc.level = .run →
        s.pbc.txQueue.length < 8 →
        ∃ t, exec (.offerWindowEnd slot) s = .next t ∧ OnlyTouches [.cpc, .jt, .dsp, .cu, .pbc] s t ∧
          t.cpc = (s.noting [.noLender c.tag j.senderTag c.id]).cpc ∧ t.decisionPending = true ∧
          t.jt = (modifyJob c.tag (fun x =>
            { (x.toWaiting (some .noLender)) with callBarred := true }) s).jt ∧
          t.cu = { s.cu with ownCalls := s.cu.ownCalls.filter fun x => x.slot ≠ c.slot } ∧
          InTxQueue { target := 63, payload := .close c.id } t)) ∧
    (c.retryDeadline = some d →
      (c.state = .openCall ∨ s.now < d → exec (.callRetryExpiry slot) s = .next s) ∧
      (c.state = .retryWait → d ≤ s.now → s.cpc.level = .run → s.pbc.txQueue.length < 8 →
        exec (.callRetryExpiry slot) s = .next
          { s with
            decisionPending := true
            cu :=
              { s.cu with
                ownCalls := s.cu.ownCalls.map fun x =>
                  if x.slot = slot.toNat then
                    { x with state := .openCall, retries := x.retries + 1, retryDeadline := none, best := none }
                  else x }
            pbc := s.busWith [c.frame s] }))

/-- At the reclaim deadline the entries without a pledge are served one after another in the queue order, as many as
there are vehicles to spare: to each in turn the idle vehicle nearest the exit that is left, the lower number between
equals, is pledged, with its own hold deadline, and its OFFER goes to the caller; under ROTATING each caller served
moves to the end of the list. The entries behind them stay as they are, and the round is closed (R127, R129, R133). With
nothing to spare the round only closes. An expiry that is not due has no effect (the model's reading, log 2). -/
def Obligations.LendingRoundServesFirstCaller : Prop :=
  ∀ (es : List Incoming) (rs : List Vehicle) (served : List (Incoming × Vehicle)) (s : State),
    s.held = false → Settled s →
    (s.due s.cu.reclaimDeadline = false → exec .reclaimWindowEnd s = .next s) ∧
    (s.due s.cu.reclaimDeadline = true → spare s = 0 →
      exec .reclaimWindowEnd s = .next { s with cu := { s.cu with reclaimDeadline := none } }) ∧
    (s.due s.cu.reclaimDeadline = true → 0 < spare s → s.cpc.level = .run →
      (s.cu.incoming.map Incoming.id).Nodup → (s.vr.records.map Vehicle.vehicle).Nodup →
      ((incomingOrder s).filter fun x => x.pledge.isNone) = es →
      rs.Perm (s.vr.records.filter Vehicle.isIdle) →
      rs.Pairwise (fun a b =>
        s.dist a.pos s.cfg.exitPoint < s.dist b.pos s.cfg.exitPoint ∨
        (s.dist a.pos s.cfg.exitPoint = s.dist b.pos s.cfg.exitPoint ∧ a.vehicle < b.vehicle)) →
      served = (es.zip rs).take (spare s) → s.pbc.txQueue.length + served.length ≤ 8 →
      ∃ t, exec .reclaimWindowEnd s = .next t ∧ OnlyTouches [.vr, .cu, .pbc] s t ∧
        t.vr = { s.vr with
          records := s.vr.records.map fun r =>
            match served.find? fun x => x.2.vehicle == r.vehicle with
            | some (e, _) =>
              { r.enter .pledged with
                pledge := some
                  { caller := e.caller, call := e.id, holdDeadline := s.deadlineIn s.cfg.pledgeHold } }
            | none => r } ∧
        t.cu = { s.cu with
          reclaimDeadline := none
          rotation :=
            match s.cfg.lendOrder with
            | .fixed => s.cu.rotation
            | .rotating => served.foldl (fun l x => l.filter (· ≠ x.1.caller) ++ [x.1.caller]) s.cu.rotation
          incoming := s.cu.incoming.map fun e =>
            match served.find? fun x => x.1.id == e.id with
            | some (_, r) => { e with pledge := some r.vehicle }
            | none => e } ∧
        t.pbc = s.busWith (served.map fun x =>
          { target := BitVec.ofNat 8 x.1.caller
            payload := .offer x.1.id (BitVec.ofNat 16 x.2.vehicle)
              (BitVec.ofNat 16 (offerEstimate x.2.pos x.1.caller s)) }))

/-- When a pledge's hold deadline passes, its entry leaves the incoming call queue and its vehicle returns to IDLE
(R134, R135); an entry without a pledge leaves when OfferWindow has passed from its heard at (R131). An expiry that is
not due has no effect (the model's reading, log 2). -/
def Obligations.PledgeHoldAndCallEntryExpire : Prop :=
  ∀ (v : VehicleNo) (r : Vehicle) (p : Pledge) (e : Incoming) (s : State),
    s.held = false → Settled s →
    (findVehicle v.toNat s = some r → r.state = .pledged → r.pledge = some p →
      (s.now < p.holdDeadline → exec (.pledgeHoldExpiry v) s = .next s) ∧
      (p.holdDeadline ≤ s.now → findIncoming p.call s = some e → e.pledge = some v.toNat →
        ∃ t, exec (.pledgeHoldExpiry v) s = .next t ∧ OnlyTouches [.vr, .dsp, .cu] s t ∧
          t.vr = (modifyVehicle v.toNat (fun x =>
            { x.enter .idle with
              pledge := none
              idleSince := some s.now
              parkDeadline := some (s.deadlineIn (s.cfg.parkDelay * 1000)) }) s).vr ∧
          t.cu = { s.cu with
            incoming := s.cu.incoming.filter (fun x => x.id ≠ p.call)
            reclaimDeadline := t.cu.reclaimDeadline })) ∧
    (findIncoming e.id s = some e → e.pledge = none →
      (s.now < e.heardAt + s.cfg.offerWindow → exec (.callEntryExpiry e.id) s = .next s) ∧
      (e.heardAt + s.cfg.offerWindow ≤ s.now →
        exec (.callEntryExpiry e.id) s = .next
          { s with cu := { s.cu with incoming := s.cu.incoming.filter fun x => x.id ≠ e.id } }))

/-- When the retry deadline of an entry in ASKING or DEFERRED passes, its ASK is sent again with its ask seq where R143
allows, and else the entry is HELD and its job takes PEER_DOWN (R144). An expiry that is not due has no effect (the
model's reading, log 2). -/
def Obligations.AskRetrySendsAgainOrHolds : Prop :=
  ∀ (tag : Half) (e : AskEntry) (j : Job) (q : Byte) (d : Nat) (s : State),
    s.held = false → Settled s → findAsk tag.toNat s = some e → e.retryDeadline = some d →
    (s.now < d → exec (.askRetryExpiry tag) s = .next s) ∧
    (e.state = .asking ∨ e.state = .deferred → d ≤ s.now →
      (mayAsk e.station s = false →
        exec (.askRetryExpiry tag) s = .next
          (modifyJob tag.toNat (fun x => { x with holdReason := some .peerDown })
            (modifyAsk tag.toNat (fun x => { x with state := .held, retryDeadline := none }) s))) ∧
      (mayAsk e.station s = true → e.askSeq = some q → findJob tag.toNat s = some j → s.pbc.txQueue.length < 8 →
        ∃ t, exec (.askRetryExpiry tag) s = .next t ∧ OnlyTouches [.jt, .hu, .pbc] s t ∧
          t.jt = (modifyJob tag.toNat (fun x => { x with askSeq := some q, holdReason := none }) s).jt ∧
          t.hu = (modifyAsk tag.toNat (fun x =>
            { x with
              askSeq := some q
              state := .asking
              retryDeadline := some (s.deadlineIn s.cfg.askRetry)
              admitDeadline := some (x.admitDeadline.getD (s.deadlineIn (s.cfg.admitWait * 1000))) }) s).hu ∧
          t.pbc = { s.pbc with
            txQueue := joinBehind
              { target := BitVec.ofNat 8 e.station
                payload := .ask q (BitVec.ofNat 16 e.vehicle) (BitVec.ofNat 24 j.carrier) (BitVec.ofNat 3 j.cls)
                  (BitVec.ofNat 8 j.age) (BitVec.ofNat 8 e.port) } s.pbc.txQueue }))

/-- When the admit deadline of an entry that is not GRANTED passes, the entry ends and its job is redirected with
ADMIT_TIMEOUT: the first destination left is kept, a reservation at the fallback port is requested, and the vehicle
leaves the exit queue for the fallback port (R36, R146, R147). An expiry that is not due has no effect (the model's
reading, log 2). -/
def Obligations.AdmitWaitRedirectsJob : Prop :=
  ∀ (tag : Half) (e : AskEntry) (j : Job) (v d f : Nat) (r : Vehicle) (s : State),
    s.held = false → Settled s → findAsk tag.toNat s = some e →
    (e.state = .granted → exec (.admitWaitExpiry tag) s = .next s) ∧
    (e.admitDeadline = some d → s.now < d → exec (.admitWaitExpiry tag) s = .next s) ∧
    (e.state ≠ .granted → e.admitDeadline = some d → d ≤ s.now → findJob tag.toNat s = some j →
      j.vehicle = some (v, .current) → findVehicle v s = some r → s.cfg.fallback = some f →
      j.reservation = none → j.dest ≠ .here f →
      ∃ t, exec (.admitWaitExpiry tag) s = .next t ∧ OthersKept [v] [j.tag] [] s t ∧
        t.cpc = (s.noting [.jobRedirected j.tag j.senderTag v .admitTimeout j.dest]).cpc ∧
        t.hu.askList = s.hu.askList.filter (fun x => x.tag ≠ j.tag) ∧
        t.hu.exitQueue.map ExitEntry.vehicle = (s.hu.exitQueue.map ExitEntry.vehicle).filter (· ≠ v) ∧
        t.cfg = s.cfg ∧ t.pbc = s.pbc ∧ t.vr.passList = s.vr.passList ∧
        findJob j.tag t = some
          { j with
            originalDest := some (j.originalDest.getD j.dest)
            dest := .here f
            askSeq := none
            state := .carrying
            holdReason := none
            reservation := if (getPort f s).hasRoom 0 then some f else none } ∧
        (getPort f t).reserved = (getPort f s).reserved + (if (getPort f s).hasRoom 0 then 1 else 0) ∧
        findVehicle v t = some { r.enter .laden with target := some (getPort f s).position })

/-- An IN_TRANSIT record's deadline makes it OVERDUE for one more TransitLimit with INBOUND_OVERDUE and changes nothing
else (R156). The deadline of a record in AWAIT_HANDOFF or OVERDUE removes it with INBOUND_LOST; a LENT record's job
returns to WAITING without its reservation and its taken-call entry ends, a LADEN record's job is retired ABORTED
(R157). The entry is found by the call id and the vehicle together, the model's reading (log 58). -/
def Obligations.InboundDeadlinesGiveUpByPhase : Prop :=
  ∀ (v : VehicleNo) (r : Vehicle) (i : Inbound) (j : Job) (id : CallId) (q : Byte) (s : State),
    s.held = false → Settled s → findVehicle v.toNat s = some r → r.state = .expected → r.inbound = some i →
    (i.phase = .inTransit → i.deadline ≤ s.now →
      exec (.transitLimitExpiry v) s = .next
        (State.noting
          [.inboundOverdue v.toNat i.station r.currentJob (r.currentJob.bind fun k => (findJob k s).bind Job.senderTag)]
          (modifyVehicle v.toNat (fun x =>
            { x with
              inbound := some
                { i with phase := .overdue, deadline := s.deadlineIn (s.cfg.transitLimit * 1000) } }) s))) ∧
    (i.phase ≠ .inTransit → i.deadline ≤ s.now →
      ∃ t, exec (.inboundDeadlineExpiry v) s = .next t ∧ t.cfg = s.cfg ∧ t.flc = s.flc ∧ t.hu = s.hu ∧ t.pbc = s.pbc ∧
        t.cpc = (s.noting [.inboundLost v.toNat i.station r.currentJob
          (r.currentJob.bind fun k => (findJob k s).bind Job.senderTag)]).cpc ∧
        t.vr.passList = s.vr.passList ∧ findVehicle v.toNat t = none ∧
        (r.currentJob = none → t.jt = s.jt ∧ t.pt = s.pt ∧ OthersKept [v.toNat] [] [] s t) ∧
        (i.ref = .lent id → t.cu.takenCalls = s.cu.takenCalls.filter fun x => !x.isFor id v.toNat) ∧
        (r.currentJob = some j.tag → findJob j.tag s = some j →
          (∀ p < 48, (getPort p t).reserved =
            (getPort p s).reserved - (if j.reservation = some p then 1 else 0)) ∧
          (j.vehicle = some (v.toNat, .current) → OthersKept [v.toNat] [j.tag] [] s t) ∧
          (i.ref = .lent id → findJob j.tag t = some { (j.toWaiting none) with reservation := none }) ∧
          (i.ref = .laden q → findJob j.tag t = none ∧ t.cu.quiet = false)))

/-- The silence timer's expiry switches to the standby line with LINE_SWITCH where a good frame has been heard there
since the timer last started and its counter is not above ErrThreshold; it restarts the timer either way (R172). An
expiry that is not due has no effect (the model's reading, log 2). -/
def Obligations.SilenceSwitchesLine : Prop :=
  ∀ (s : State),
    s.held = false → Settled s →
    (s.now < s.pbc.silenceDeadline → exec .silenceTimerExpiry s = .next s) ∧
    (s.pbc.silenceDeadline ≤ s.now → s.pbc.standbyHeard = true →
      s.err s.pbc.observed.other ≤ s.cfg.errThreshold →
      exec .silenceTimerExpiry s = .next
        (State.noting [.lineSwitch s.pbc.observed.other .silence]
          { s with
            pbc :=
              { s.pbc with
                observed := s.pbc.observed.other
                silenceDeadline := s.deadlineIn s.cfg.silenceLimit
                standbyHeard := false } })) ∧
    (s.pbc.silenceDeadline ≤ s.now →
      s.pbc.standbyHeard = false ∨ s.cfg.errThreshold < s.err s.pbc.observed.other →
      exec .silenceTimerExpiry s = .next
        { s with
          pbc := { s.pbc with silenceDeadline := s.deadlineIn s.cfg.silenceLimit, standbyHeard := false } })

/-! ### The peer bus -/

/-- An attempt puts the head of the transmit queue on the line with the own station number; losing contention discards
without notice a frame marked not to return and a BEACON that a newer one was queued behind, returns any other ahead of
its key with room, and at a full queue places it as though newly requested: it displaces the last frame and stands
behind its key, or is dropped itself, with TX_DROP (R164, R165, R176; the two marks are the model's own fields, logs 23
and 59). R165 begins an attempt only with a frame queued and none of its own on the line: that an attempt with the queue
empty or a frame on the line has no effect, and an end of contention with nothing on the line none, is the model's
choice (log 7). -/
def Obligations.AttemptAndLostContentionMoveTheFrame : Prop :=
  ∀ (f w : TxFrame) (q : List TxFrame) (o : OnLine) (s : State),
    s.held = false → Settled s →
    (s.pbc.onLine = none → s.pbc.txQueue = [] → exec .transmissionAttempt s = .next s) ∧
    (s.pbc.onLine = some o → exec .transmissionAttempt s = .next s) ∧
    (s.pbc.onLine = none → s.pbc.txQueue = f :: q →
      exec .transmissionAttempt s = .next
        { s with
          pbc :=
            { s.pbc with
              txQueue := q
              onLine := some
                { frame := f, sender := s.cfg.station, line := s.pbc.observed, noReturn := false
                  newerBeacon := false } } }) ∧
    (s.pbc.onLine = none → exec .contentionLost s = .next s) ∧
    (s.pbc.onLine = some o → o.noReturn = true ∨ (o.frame.isBeacon = true ∧ o.newerBeacon = true) →
      exec .contentionLost s = .next { s with pbc := { s.pbc with onLine := none } }) ∧
    (s.pbc.onLine = some o → o.noReturn = false → o.frame.isBeacon = false ∨ o.newerBeacon = false →
      (s.pbc.txQueue.length < 8 →
        exec .contentionLost s = .next
          { s with pbc := { s.pbc with onLine := none, txQueue := joinAhead o.frame s.pbc.txQueue } }) ∧
      (s.pbc.txQueue.length = 8 → s.pbc.txQueue.getLast? = some w → w.payload.kind ≠ 10 → o.frame.order < w.order →
        exec .contentionLost s = .next
          (State.noting [.txDrop w.payload.kind.toNat w.target]
            { s with
              pbc := { s.pbc with onLine := none, txQueue := joinBehind o.frame s.pbc.txQueue.dropLast } })) ∧
      (s.pbc.txQueue.length = 8 → s.pbc.txQueue.getLast? = some w → o.frame.payload.kind ≠ 10 →
        w.order ≤ o.frame.order →
        exec .contentionLost s = .next
          (State.noting [.txDrop o.frame.payload.kind.toNat o.frame.target]
            { s with pbc := { s.pbc with onLine := none } })))

/-- A transmission whose echo is the bytes sent clears the failure count and counts as a good frame on its line; a
missing echo adds 1 to the count, a corrupt one counts as a bad frame too; the count reaching TxFailLimit in RUN
isolates the station with cause TX_FAIL (R166, R185). Each way a CALL's offer window starts (R119), but for the isolated
station, which has no own call left. Where the line has switched since the transmission began, the end is kept as the
moment at which the frame's copy ends on the line observed (the model's own mark, log 55). An end with nothing on the
line has no effect (the model's choice, log 7). -/
def Obligations.TransmissionEndJudgesEcho : Prop :=
  ∀ (o : OnLine) (bytes : List Byte) (echo : Option (List Byte)) (s : State),
    s.held = false → Settled s →
    (s.pbc.onLine = none → exec (.transmissionEnd echo) s = .next s) ∧
    (s.pbc.onLine = some o →
      (∃ t, exec (.transmissionEnd (some o.bytes)) s = .next t ∧ OnlyTouches [.cpc, .cu, .pbc] s t ∧
        t.cpc.level = s.cpc.level ∧ t.pbc.onLine = none ∧ t.pbc.txFailures = 0 ∧ t.pbc.txQueue = s.pbc.txQueue ∧
        t.err o.line = s.err o.line - 1 ∧ t.err o.line.other = s.err o.line.other ∧
        WindowStarts o.frame.payload s t) ∧
      (s.cpc.level ≠ .run ∨ min (s.pbc.txFailures + 1) 31 < s.cfg.txFailLimit →
        ∃ t, exec (.transmissionEnd none) s = .next t ∧ OnlyTouches [.cu, .pbc] s t ∧
          t.pbc =
            { s.pbc with
              onLine := none
              ownCopy := if s.pbc.observed = o.line then s.pbc.ownCopy else some (s.pbc.observed, s.now)
              txFailures := min (s.pbc.txFailures + 1) 31 } ∧
          WindowStarts o.frame.payload s t) ∧
      (hear bytes = .badForm → s.cpc.level ≠ .run ∨ min (s.pbc.txFailures + 1) 31 < s.cfg.txFailLimit →
        ∃ t, exec (.transmissionEnd (some bytes)) s = .next t ∧ OnlyTouches [.cpc, .cu, .pbc] s t ∧
          t.cpc.level = s.cpc.level ∧ t.pbc.onLine = none ∧ t.pbc.txFailures = min (s.pbc.txFailures + 1) 31 ∧
          t.pbc.txQueue = s.pbc.txQueue ∧
          t.err o.line = min (s.err o.line + 1) 255 ∧ t.err o.line.other = s.err o.line.other ∧
          WindowStarts o.frame.payload s t) ∧
      (s.cpc.level = .run → s.cfg.txFailLimit ≤ min (s.pbc.txFailures + 1) 31 →
        echo = none ∨ (echo = some bytes ∧ hear bytes = .badForm) →
        ∃ t, exec (.transmissionEnd echo) s = .next t ∧
          t.cpc.level = .isolated ∧ t.cpc.isolationCause = some .txFail ∧ t.cfg = s.cfg ∧ t.pt = s.pt ∧ t.flc = s.flc ∧
          t.jt.jobs.map Job.tag = s.jt.jobs.map Job.tag ∧
          t.pbc.onLine = none ∧ t.pbc.txQueue = [] ∧ t.pbc.txFailures = min (s.pbc.txFailures + 1) 31 ∧
          t.cu.ownCalls = [] ∧ t.cu.incoming = [] ∧ t.decisionPending = true ∧
          (echo = none →
            t.cpc = (State.noting [.levelChange .run .isolated .txFail]
              { s with cpc := { s.cpc with level := .isolated, isolationCause := some .txFail } }).cpc ∧
            (t.pbc.errA, t.pbc.errB) = (s.pbc.errA, s.pbc.errB)) ∧
          (echo = some bytes → t.err o.line = min (s.err o.line + 1) 255)))

/-- A bad frame adds 1 to its line's counter up to 255, a good frame on the standby line takes 1 off its own down to 0
(R170); each change is followed by the tests of R171. A frame of another version counts as VersionPolicy says (R167). -/
def Obligations.BadAndStandbyFramesMoveCounters : Prop :=
  ∀ (l : Line) (bytes : List Byte) (s : State),
    s.held = false → Settled s →
    (hear bytes = .otherVersion → s.cfg.versionPolicy = .ignore → exec (.badFrame l bytes) s = .next s) ∧
    (hear bytes = .badForm ∨ (hear bytes = .otherVersion ∧ s.cfg.versionPolicy = .count) →
      ∃ t, exec (.badFrame l bytes) s = .next t ∧ OnlyTouches [.cpc, .pbc] s t ∧ t.cpc.level = s.cpc.level ∧
        t.err l = min (s.err l + 1) 255 ∧ t.err l.other = s.err l.other ∧ t.pbc.txQueue = s.pbc.txQueue ∧
        t.pbc.peers = s.pbc.peers ∧ LineTested (t.err l ≠ s.err l) s t ∧
        (t.pbc.observed = s.pbc.observed →
          t.pbc.silenceDeadline = s.pbc.silenceDeadline ∧ t.pbc.standbyHeard = s.pbc.standbyHeard)) ∧
    (∃ t, exec .standbyFrame s = .next t ∧ OnlyTouches [.cpc, .pbc] s t ∧ t.cpc.level = s.cpc.level ∧
      t.err s.pbc.observed.other = s.err s.pbc.observed.other - 1 ∧ t.err s.pbc.observed = s.err s.pbc.observed ∧
      t.pbc.txQueue = s.pbc.txQueue ∧ t.pbc.peers = s.pbc.peers ∧
      LineTested (t.err s.pbc.observed.other ≠ s.err s.pbc.observed.other) s t ∧
      (t.pbc.observed = s.pbc.observed →
        t.pbc.standbyHeard = true ∧ t.pbc.silenceDeadline = s.pbc.silenceDeadline))

/-- A good frame bearing the own number and no echo counts as a good frame on the observed line; the first sets the
mark and raises DUPLICATE_STATION, and in RUN isolates the station; further ones only count (R168, R185). While an own
frame stands on the line, none has an effect on the line of its echo (the model's reading, log 9). On the other line,
observed since a switch, the own frame's copy counts as a good frame, restarts the silence timer (R167, R170, R172) and
is no duplicate, before the transmission's end and at its moment (log 55). A BEACON with the own number is such a frame
(R167). -/
def Obligations.DuplicateStationIsolates : Prop :=
  ∀ (o : OnLine) (h : FrameHead) (a b c d q : Byte) (s : State),
    s.held = false → Settled s →
    (h.sender.toNat = s.cfg.station → exec (.beacon h a b c d q) s = exec .duplicateStationFrame s) ∧
    (s.pbc.onLine = some o → o.line = s.pbc.observed → exec .duplicateStationFrame s = .next s) ∧
    ((s.pbc.onLine = some o ∧ o.line ≠ s.pbc.observed) ∨
        (s.pbc.onLine = none ∧ s.pbc.ownCopy = some (s.pbc.observed, s.now)) →
      ∃ t, exec .duplicateStationFrame s = .next t ∧ OnlyTouches [.cpc, .pbc] s t ∧ t.cpc.level = s.cpc.level ∧
        t.err s.pbc.observed = s.err s.pbc.observed - 1 ∧ t.err s.pbc.observed.other = s.err s.pbc.observed.other ∧
        t.pbc.silenceDeadline = s.deadlineIn s.cfg.silenceLimit ∧ t.pbc.standbyHeard = false ∧
        LineTested (t.err s.pbc.observed ≠ s.err s.pbc.observed) s t ∧
        t.pbc =
          { s.pbc with
            ownCopy := if s.pbc.onLine = none then none else s.pbc.ownCopy
            observed := t.pbc.observed
            errA := t.pbc.errA
            errB := t.pbc.errB
            degraded := t.pbc.degraded
            silenceDeadline := t.pbc.silenceDeadline
            standbyHeard := t.pbc.standbyHeard }) ∧
    (s.pbc.onLine = none → s.pbc.ownCopy ≠ some (s.pbc.observed, s.now) → s.pbc.duplicate = true →
      exec .duplicateStationFrame s = .next (joinNotices (countGood s.pbc.observed s))) ∧
    (s.pbc.onLine = none → s.pbc.ownCopy ≠ some (s.pbc.observed, s.now) → s.pbc.duplicate = false →
      s.err s.pbc.observed ≤ s.cfg.errThreshold →
      ∃ t, exec .duplicateStationFrame s = .next t ∧ t.pbc.duplicate = true ∧ t.pbc.observed = s.pbc.observed ∧
        t.err s.pbc.observed = s.err s.pbc.observed - 1 ∧ t.cfg = s.cfg ∧ t.pbc.txFailures = s.pbc.txFailures ∧
        (s.cpc.level ≠ .run →
          OnlyTouches [.cpc, .pbc] s t ∧ t.cpc = (s.noting [.duplicateStation s.cpc.level]).cpc) ∧
        (s.cpc.level = .run →
          t.cpc = (State.noting
            [.duplicateStation .run, .levelChange .run .isolated .duplicateStation]
            { s with
              cpc := { s.cpc with level := .isolated, isolationCause := some .duplicateStation } }).cpc ∧
          t.pt = s.pt ∧ t.flc = s.flc ∧ t.jt.jobs.map Job.tag = s.jt.jobs.map Job.tag ∧
          t.pbc.txQueue = [] ∧ t.cu.ownCalls = [] ∧ t.cu.incoming = [] ∧ t.decisionPending = true))

/-- The peer table. A good frame from another station counts on the observed line and restarts the silence timer; in
RUN and ISOLATED its sender's entry becomes LIVE with freshness FreshLimit, which wakes the Dispatcher where it was
not LIVE, and nothing more happens where the target does not name this station (R169, R170, R172, R174). A BEACON also
stores its five values, each at most the top of its range (R175); either then sends the ASK of every HELD entry for
the station that may be asked for (R143). The beacon timer's expiry restarts it, takes 1 from the freshness of every
LIVE entry, makes those at 0 STALE, which wakes the Dispatcher, and in RUN requests a BEACON of the station's own
values: it replaces a queued one, joins the queue, or, at a full queue, is dropped with TX_DROP (R164, R173, R174);
one that is queued marks the frame on the line (R165; the mark is the model's own field, log 59). An
ill-formed UNACCEPTED_FRAME and an expiry that is not due have no effect (the model's choices, logs 7 and 2). That a
BEACON is followed by one test (log 22), and that its QUIET byte is 1 for yes and 0 for no (log 30) and any byte but 0
is stored as yes (log 39), are its readings. -/
def Obligations.PeersFadeRefreshAndStoreBeacons : Prop :=
  ∀ (h : FrameHead) (a b c d q : Byte) (e : AskEntry) (j : Job) (f : TxFrame) (s : State),
    s.held = false → Settled s → (s.hu.askList.map AskEntry.tag).Nodup →
    (s.due s.pbc.beaconDeadline = false → exec .beaconTimerExpiry s = .next s) ∧
    (s.due s.pbc.beaconDeadline = true → s.cpc.level ≠ .config →
      f = { target := 63
            payload := .beacon (BitVec.ofNat 8 (spare s)) (BitVec.ofNat 8 (24 - s.vr.records.length))
              (BitVec.ofNat 8 (64 - s.jt.jobs.length)) (BitVec.ofNat 8 (waitingJobs s)) (if s.cu.quiet then 1 else 0) } →
      ∃ t, exec .beaconTimerExpiry s = .next t ∧ OnlyTouches [.cpc, .dsp, .pbc] s t ∧
        t.decisionPending = (s.decisionPending ||
          (List.range 32).any fun st => (getPeer st s).state == .live && (getPeer st s).freshness ≤ 1) ∧
        t.pbc =
          { s.pbc with
            beaconDeadline := some (s.deadlineIn s.cfg.beaconPeriod)
            peers := s.pbc.peers.map fun p =>
              if p.state = .live then
                { p with freshness := p.freshness - 1, state := if p.freshness ≤ 1 then .stale else .live }
              else p
            onLine :=
              if s.cpc.level ≠ .isolated ∧
                  (s.pbc.txQueue.any TxFrame.isBeacon = true ∨ s.pbc.txQueue.length < 8) then
                s.pbc.onLine.map fun o => { o with newerBeacon := true }
              else s.pbc.onLine
            txQueue :=
              if s.cpc.level = .isolated then s.pbc.txQueue
              else if s.pbc.txQueue.any TxFrame.isBeacon then
                s.pbc.txQueue.map fun g => if g.isBeacon then f else g
              else if s.pbc.txQueue.length < 8 then joinBehind f s.pbc.txQueue
              else s.pbc.txQueue } ∧
        t.cpc = (if s.cpc.level = .run ∧ s.pbc.txQueue.any TxFrame.isBeacon = false ∧ 8 ≤ s.pbc.txQueue.length then
          s.noting [.txDrop 11 63] else s).cpc) ∧
    (h.sender.toNat ≠ s.cfg.station →
      (accepted h.target s = true → exec (.unacceptedFrame h) s = .next s) ∧
      (accepted h.target s = false → (∀ x ∈ s.hu.askList, x.station = h.sender.toNat → x.state ≠ .held) →
        exec (.unacceptedFrame h) s = .next (joinNotices (heardFrom h s)) ∧
        exec (.beacon h a b c d q) s = .next (joinNotices (heardFrom h s))) ∧
      (accepted h.target s = false →
        ∃ t, exec (.unacceptedFrame h) s = .next t ∧ t.cfg = s.cfg ∧ t.vr = s.vr ∧ t.pt = s.pt ∧ t.flc = s.flc ∧
          t.cu.incoming = s.cu.incoming ∧ t.hu.exitQueue = s.hu.exitQueue ∧
          t.err s.pbc.observed = s.err s.pbc.observed - 1 ∧
          t.pbc.silenceDeadline = s.deadlineIn s.cfg.silenceLimit ∧
          (s.cpc.level = .config → t.pbc.peers = s.pbc.peers) ∧
          (s.cpc.level ≠ .config →
            getPeer h.sender.toNat t =
              { getPeer h.sender.toNat s with state := .live, freshness := s.cfg.freshLimit } ∧
            (∀ st < 32, st ≠ h.sender.toNat → getPeer st t = getPeer st s) ∧
            ((getPeer h.sender.toNat s).state ≠ .live → t.decisionPending = true)) ∧
          (findAsk e.tag s = some e → e.state = .held → e.station = h.sender.toNat → findJob e.tag s = some j →
            s.hu.askList.length ≤ 24 →
            s.pbc.txQueue.length + (s.hu.askList.filter fun x => x.station = h.sender.toNat).length ≤ 8 →
            (s.cpc.level = .run ∧ (getPeer e.station s).state ≠ .live ∧ 0 < (getPeer e.station s).freeRecords ∧
                0 < (getPeer e.station s).freeJobSlots → AskSent e j s t) ∧
            (s.cpc.level ≠ .run ∨ (getPeer e.station s).state = .live ∨ (getPeer e.station s).freeRecords = 0 ∨
                (getPeer e.station s).freeJobSlots = 0 →
              findAsk e.tag t = some e ∧ findJob e.tag t = some j))) ∧
      (accepted h.target s = true → s.cpc.level ≠ .config →
        ∃ t, exec (.beacon h a b c d q) s = .next t ∧ t.cfg = s.cfg ∧ t.vr = s.vr ∧ t.pt = s.pt ∧ t.flc = s.flc ∧
          t.cu.incoming = s.cu.incoming ∧ t.hu.exitQueue = s.hu.exitQueue ∧
          t.err s.pbc.observed = s.err s.pbc.observed - 1 ∧
          getPeer h.sender.toNat t =
            { state := .live, freshness := s.cfg.freshLimit, spare := min a.toNat 24, freeRecords := min b.toNat 24,
              freeJobSlots := min c.toNat 64, waitingJobs := min d.toNat 64, quiet := q ≠ 0 } ∧
          (∀ st < 32, st ≠ h.sender.toNat → getPeer st t = getPeer st s) ∧
          ((getPeer h.sender.toNat s).state ≠ .live → t.decisionPending = true) ∧
          (findAsk e.tag s = some e → e.state = .held → e.station = h.sender.toNat → findJob e.tag s = some j →
            s.hu.askList.length ≤ 24 →
            s.pbc.txQueue.length + (s.hu.askList.filter fun x => x.station = h.sender.toNat).length ≤ 8 →
            (s.cpc.level = .run ∧ b ≠ 0 ∧ c ≠ 0 → AskSent e j s t) ∧
            (s.cpc.level ≠ .run ∨ b = 0 ∨ c = 0 → findAsk e.tag t = some e ∧ findJob e.tag t = some j))))

/-- A CALL in RUN from a station with a Leg joins the queue with its U, at most 4095; a repeat refreshes its entry and
offers its pledged vehicle again with a full PledgeHold; at a full queue it displaces a last entry of higher U or is not
queued; outside RUN, or with Leg 0, it is ignored (R130). A round opens where the CALL meets the test of R132. -/
def Obligations.CallJoinsQueueRepeatsOrDisplaces : Prop :=
  ∀ (h : FrameHead) (id : CallId) (cls : BitVec 3) (u : Half) (e w : Incoming) (v : Nat) (r x : Vehicle) (p : Pledge)
      (s : State),
    HeardAndAccepted h s → Settled s →
    (s.cpc.level ≠ .run ∨ legTo h.sender.toNat s = 0 →
      exec (.call h id cls u) s = .next (joinNotices (heardFrom h s))) ∧
    (s.cpc.level = .run → legTo h.sender.toNat s ≠ 0 →
      (findIncoming id s = none → s.cu.incoming.length < 8 →
        ∃ t, exec (.call h id cls u) s = .next t ∧ OnlyTouches [.cpc, .dsp, .cu, .pbc] s t ∧
          t.cpc = (joinNotices (heardFrom h s)).cpc ∧ t.pbc = (heardFrom h s).pbc ∧
          t.cu =
            { s.cu with
              incoming := s.cu.incoming ++
                [{ caller := h.sender.toNat, id := id, urgency := min u.toNat 4095, heardAt := s.now, pledge := none }]
              reclaimDeadline :=
                if s.cu.reclaimDeadline = none ∧ 0 < spare s then some (s.deadlineIn s.cfg.reclaimWindow)
                else s.cu.reclaimDeadline }) ∧
      (findIncoming id s = some e → e.pledge = none →
        ∃ t, exec (.call h id cls u) s = .next t ∧ OnlyTouches [.cpc, .dsp, .cu, .pbc] s t ∧
          t.pbc = (heardFrom h s).pbc ∧
          t.cu = { s.cu with
            incoming := s.cu.incoming.map fun y => if y.id = id then { y with heardAt := s.now } else y }) ∧
      (findIncoming id s = some e → e.pledge = some v → findVehicle v s = some r → r.pledge = some p →
        s.pbc.txQueue.length < 8 →
        ∃ t, exec (.call h id cls u) s = .next t ∧ OnlyTouches [.cpc, .dsp, .cu, .vr, .pbc] s t ∧
          t.cu = { s.cu with
            incoming := s.cu.incoming.map fun y => if y.id = id then { y with heardAt := s.now } else y } ∧
          OthersKept [v] [] [] s t ∧
          findVehicle v t =
            some { r with pledge := some { p with holdDeadline := s.deadlineIn s.cfg.pledgeHold } } ∧
          InTxQueue
            { target := BitVec.ofNat 8 e.caller
              payload := .offer e.id (BitVec.ofNat 16 v) (BitVec.ofNat 16 (offerEstimate r.pos e.caller s)) } t) ∧
      (findIncoming id s = none → s.cu.incoming.length = 8 → (incomingOrder s).getLast? = some w →
        w.urgency ≤ min u.toNat 4095 → exec (.call h id cls u) s = .next (joinNotices (heardFrom h s))) ∧
      (findIncoming id s = none → s.cu.incoming.length = 8 → (incomingOrder s).getLast? = some w →
        min u.toNat 4095 < w.urgency → findIncoming w.id s = some w →
        ∃ t, exec (.call h id cls u) s = .next t ∧ OnlyTouches [.cpc, .dsp, .cu, .vr, .pbc] s t ∧
          t.cu.incoming = s.cu.incoming.filter (fun y => y.id ≠ w.id) ++
            [{ caller := h.sender.toNat, id := id, urgency := min u.toNat 4095, heardAt := s.now, pledge := none }] ∧
          OthersKept w.pledge.toList [] [] s t ∧ (w.pledge = none → t.vr = s.vr) ∧
          (w.pledge = some v → findVehicle v s = some x → x.state = .pledged →
            (findVehicle v t).map (fun y => (y.state, y.pledge, y.idleSince)) = some (.idle, none, some s.now))))

/-- An OFFER for an own OPEN call is taken at once where its total is at most QuickAccept and the take step succeeds;
one above QuickAccept, or whose take step is refused (R123), is kept as the best where R120 says so, and the window runs
on. That a lender's own earlier offer is replaced after a refused take step too, whatever the totals, is the model's
reading of R120 beside R121 (log 19). One whose vehicle the roster holds, or whose call is in RETRY_WAIT or
gone, is answered with CLOSE to its sender; one for a taken call or another station's call is discarded (R120 to
R122). -/
def Obligations.OfferIsKeptTakenOrClosed : Prop :=
  ∀ (h : FrameHead) (id : CallId) (v eta : Half) (c : OwnCall) (o : BestOffer) (j : Job) (s : State),
    HeardAndAccepted h s → Settled s →
    (s.cpc.level = .config ∨ vehicleInRange v.toNat = false ∨ id.station.toNat ≠ s.cfg.station →
      exec (.offer h id v eta) s = .next (joinNotices (heardFrom h s))) ∧
    (findOwnCall id s = none → s.cu.takenCalls.any (fun x => x.id == id) = true →
      exec (.offer h id v eta) s = .next (joinNotices (heardFrom h s))) ∧
    (s.cpc.level = .run → vehicleInRange v.toNat = true → id.station.toNat = s.cfg.station →
      ((findOwnCall id s = none ∧ s.cu.takenCalls.any (fun x => x.id == id) = false) ∨
        (findOwnCall id s = some c ∧ (c.state = .retryWait ∨ (findVehicle v.toNat s).isSome = true)) →
        s.pbc.txQueue.length < 8 →
        ∃ t, exec (.offer h id v eta) s = .next t ∧ OnlyTouches [.cpc, .dsp, .pbc] s t ∧
          InTxQueue { target := BitVec.ofNat 8 h.sender.toNat, payload := .close id } t) ∧
      (findOwnCall id s = some c → c.state = .openCall → findVehicle v.toNat s = none → findJob c.tag s = some j →
        o = { station := h.sender.toNat, vehicle := v.toNat
              total := min (eta.toNat + s.dist 0 (pickupPosition j s)) 65535 } →
        (s.cfg.quickAccept < o.total ∨ TakeRefused c o j s →
          ∃ t, exec (.offer h id v eta) s = .next t ∧ OnlyTouches [.cpc, .dsp, .cu, .pbc] s t ∧
            t.pbc = (heardFrom h s).pbc ∧
            t.cu = { s.cu with
              ownCalls := s.cu.ownCalls.map fun x =>
                if x.slot = c.slot then
                  { x with
                    best :=
                      if x.best.all (fun b => b.station = o.station ∨ o.total < b.total ∨
                          (o.total = b.total ∧ o.station < b.station)) then some o
                      else x.best }
                else x }) ∧
        (o.total ≤ s.cfg.quickAccept → TakeGranted c o j s → s.pbc.txQueue.length < 8 →
          ∃ t, exec (.offer h id v eta) s = .next t ∧ OnlyTouches [.cpc, .jt, .pt, .vr, .dsp, .cu, .pbc] s t ∧
            OfferTaken c o s t ∧
            (∀ p < 48, (getPort p t).reserved =
              (getPort p s).reserved + (if j.dest = .here p then 1 else 0)))))

/-- A TAKE in RUN that names this station and a vehicle PLEDGED for the call makes it DEPARTING toward X with the caller
in its lend part; one that names another station, and a CLOSE, end the call's entry and release its pledge to IDLE; one
that names this station and no such vehicle ends the entry too and is answered with REFUSE (R79, R136, R137). -/
def Obligations.TakeAndCloseSettlePledges : Prop :=
  ∀ (h : FrameHead) (id : CallId) (st : Byte) (v : Half) (e : Incoming) (w : Nat) (r : Vehicle) (p : Pledge)
      (s : State),
    HeardAndAccepted h s → Settled s →
    (st.toNat ≠ s.cfg.station → exec (.close h id) s = exec (.take h id st v) s) ∧
    (s.cpc.level ≠ .run →
      exec (.take h id st v) s = .next (joinNotices (heardFrom h s)) ∧
      exec (.close h id) s = .next (joinNotices (heardFrom h s))) ∧
    (s.cpc.level = .run →
      (findIncoming id s = none →
        exec (.close h id) s = .next (joinNotices (heardFrom h s)) ∧
        (st.toNat ≠ s.cfg.station → exec (.take h id st v) s = .next (joinNotices (heardFrom h s)))) ∧
      (findIncoming id s = some e → e.pledge = none →
        ∃ t, exec (.close h id) s = .next t ∧ OnlyTouches [.cpc, .dsp, .cu, .pbc] s t ∧
          t.pbc = (heardFrom h s).pbc ∧ t.cpc = (joinNotices (heardFrom h s)).cpc ∧
          t.cu = { s.cu with incoming := s.cu.incoming.filter fun x => x.id ≠ id }) ∧
      (st.toNat = s.cfg.station → findIncoming id s = none → lentFor v.toNat id s = true →
        exec (.take h id st v) s = .next (joinNotices (heardFrom h s))) ∧
      (findIncoming id s = some e → e.pledge = some v.toNat → st.toNat = s.cfg.station →
        findVehicle v.toNat s = some r → r.state = .pledged → r.pledge = some p → p.call = id →
        ∃ t, exec (.take h id st v) s = .next t ∧ OnlyTouches [.cpc, .vr, .flc, .dsp, .cu, .pbc] s t ∧
          t.pbc = (heardFrom h s).pbc ∧ t.cpc = (joinNotices (heardFrom h s)).cpc ∧
          t.cu = { s.cu with incoming := s.cu.incoming.filter fun x => x.id ≠ id } ∧ OthersKept [v.toNat] [] [] s t ∧
          (findVehicle v.toNat t).map (fun x => (x.state, x.pledge, x.lend, x.currentJob)) =
            some (.departing, none, some { caller := e.caller, call := id }, r.currentJob) ∧
          (findContext v.toNat s = none →
            (findVehicle v.toNat t).map Vehicle.target = some (some s.cfg.exitPoint) ∧
            (findContext v.toNat t).bind (fun x => x.inFlight.map InFlight.cmd) = some (.goto s.cfg.exitPoint)) ∧
          (commandInFlight v.toNat s = true →
            (findVehicle v.toNat t).map Vehicle.target = some none ∧
            (findContext v.toNat t).bind Context.inFlight = (findContext v.toNat s).bind Context.inFlight)) ∧
      (findIncoming id s = some e → e.pledge = some w → findVehicle w s = some r → r.state = .pledged →
        st.toNat ≠ s.cfg.station ∨ w ≠ v.toNat → s.pbc.txQueue.length < 8 →
        ∃ t, exec (.take h id st v) s = .next t ∧ OnlyTouches [.cpc, .vr, .dsp, .cu, .pbc] s t ∧
          t.cu.incoming = s.cu.incoming.filter (fun x => x.id ≠ id) ∧ t.decisionPending = true ∧
          OthersKept [w] [] [] s t ∧
          (findVehicle w t).map (fun x => (x.state, x.pledge, x.idleSince)) = some (.idle, none, some s.now)) ∧
      (st.toNat = s.cfg.station → lentFor v.toNat id s = false → (findIncoming id s = some e → e.pledge ≠ some v.toNat) →
        findIncoming id s = none ∨ findIncoming id s = some e → s.pbc.txQueue.length < 8 →
        ∃ t, exec (.take h id st v) s = .next t ∧ OnlyTouches [.cpc, .vr, .dsp, .cu, .pbc] s t ∧
          t.cu.incoming = s.cu.incoming.filter (fun x => x.id ≠ id) ∧
          InTxQueue { target := id.station, payload := .refuse id v } t))

/-- An ASK in RUN is answered by the first of the tests of R152 that fails, DENY for an unfit port, DEFER for the
roster, the Job Table or the port's room, and changes no table then; one that passes them creates the EXPECTED record,
the INBOUND job with a provisional tag and its reservation in one step and is answered GRANT (R38, R153); a repeat of
a granted ASK is answered GRANT again. In CONFIG it is deferred, in ISOLATED ignored. At a full transmit queue the
DENY displaces the last frame where its key is lower, and is dropped where not, with TX_DROP; the call of a CALL so
displaced waits to retry or is exhausted (R119, R124, R164). -/
def Obligations.AskIsGrantedDeferredOrDenied : Prop :=
  ∀ (h : FrameHead) (q : Byte) (v : Half) (carrier : Triple) (cls : BitVec 3) (age port : Byte) (r : Vehicle)
      (i : Inbound) (f w : TxFrame) (id : CallId) (c : OwnCall) (j : Job) (s : State),
    HeardAndAccepted h s → Settled s →
    (vehicleInRange v.toNat = false ∨ carrier = 0 ∨ s.cpc.level = .isolated →
      exec (.ask h q v carrier cls age port) s = .next (joinNotices (heardFrom h s))) ∧
    (vehicleInRange v.toNat = true → carrier ≠ 0 → s.pbc.txQueue.length < 8 →
      (s.cpc.level = .config →
        ∃ t, exec (.ask h q v carrier cls age port) s = .next t ∧ OnlyTouches [.cpc, .pbc] s t ∧
          InTxQueue
            { target := BitVec.ofNat 8 h.sender.toNat
              payload := .defer q 3 (BitVec.ofNat 16 (s.cfg.askRetry * 2)) } t) ∧
      (s.cpc.level = .run → findVehicle v.toNat s = some r → r.state = .expected → r.inbound = some i →
        i.station = h.sender.toNat → i.ref = .laden q →
        ∃ t, exec (.ask h q v carrier cls age port) s = .next t ∧ OnlyTouches [.cpc, .dsp, .pbc] s t ∧
          InTxQueue { target := BitVec.ofNat 8 h.sender.toNat, payload := .grant q v } t) ∧
      (s.cpc.level = .run → expectedFor h.sender.toNat v.toNat (.laden q) s = none →
        48 ≤ port.toNat ∨ (getPort port.toNat s).takes = false ∨ 24 ≤ s.vr.records.length ∨
          (findVehicle v.toNat s).isSome = true ∨ 64 ≤ s.jt.jobs.length ∨ (getPort port.toNat s).hasRoom 0 = false →
        ∃ t, exec (.ask h q v carrier cls age port) s = .next t ∧ OnlyTouches [.cpc, .dsp, .pbc] s t ∧
          InTxQueue
            { target := BitVec.ofNat 8 h.sender.toNat
              payload :=
                if 48 ≤ port.toNat ∨ (getPort port.toNat s).takes = false then .deny q 0
                else if 24 ≤ s.vr.records.length ∨ (findVehicle v.toNat s).isSome = true then
                  .defer q 1 (BitVec.ofNat 16 (s.cfg.askRetry * 2))
                else if 64 ≤ s.jt.jobs.length then .defer q 2 (BitVec.ofNat 16 (s.cfg.askRetry * 2))
                else .defer q 0 (BitVec.ofNat 16 (s.cfg.askRetry * 2)) } t) ∧
      (s.cpc.level = .run → port.toNat < 48 → s.vr.records.length < 24 → findVehicle v.toNat s = none →
        s.jt.jobs.length < 64 → (getPort port.toNat s).hasRoom 0 = true →
        (∀ x ∈ s.hu.exitQueue, x.vehicle ≠ v.toNat) →
        ∃ t, exec (.ask h q v carrier cls age port) s = .next t ∧ OnlyTouches [.cpc, .jt, .pt, .vr, .dsp, .pbc] s t ∧
          findJob (provisionalTag s) s = none ∧ 32768 ≤ provisionalTag s ∧
          OthersKept [v.toNat] [provisionalTag s] [] s t ∧
          t.jt = { s.jt with
            jobs := s.jt.jobs ++
              [{ tag := provisionalTag s, senderTag := none, carrier := carrier.toNat, cls := cls.toNat,
                 mode := .single, rearm := false, count := 1, reload := 1, movesDone := 0, source := .arrival,
                 dest := .here port.toNat, originalDest := none, age := age.toNat, callBarred := false,
                 state := .inbound, holdReason := none, vehicle := some (v.toNat, .current),
                 reservation := some port.toNat, callLink := none, askSeq := none }] } ∧
          t.pt = (modifyPort port.toNat (fun x => { x with reserved := x.reserved + 1 }) s).pt ∧
          (findVehicle v.toNat t).map (fun x => (x.state, x.laden, x.currentJob, x.inbound)) =
            some (.expected, some carrier.toNat, some (provisionalTag s),
              some { station := h.sender.toNat, ref := .laden q, phase := .awaitHandoff,
                     deadline := s.deadlineIn (s.cfg.departLimit * 1000) }) ∧
          InTxQueue { target := BitVec.ofNat 8 h.sender.toNat, payload := .grant q v } t)) ∧
    (vehicleInRange v.toNat = true → carrier ≠ 0 → s.cpc.level = .run → 48 ≤ port.toNat →
      expectedFor h.sender.toNat v.toNat (.laden q) s = none → s.pbc.txQueue.length = 8 →
      s.pbc.txQueue.getLast? = some w → f = { target := BitVec.ofNat 8 h.sender.toNat, payload := .deny q 0 } →
      (w.order = 0 →
        exec (.ask h q v carrier cls age port) s = .next
          (joinNotices (post (.txDrop 6 f.target) (heardFrom h s)))) ∧
      (0 < w.order → w.payload.kind ≠ 10 →
        ∃ t, exec (.ask h q v carrier cls age port) s = .next t ∧ OnlyTouches [.cpc, .dsp, .pbc] s t ∧
          t.cpc = (joinNotices (post (.txDrop w.payload.kind.toNat w.target) (heardFrom h s))).cpc ∧
          t.pbc = { (heardFrom h s).pbc with txQueue := joinBehind f s.pbc.txQueue.dropLast }) ∧
      (w.payload = .call id c.cls (BitVec.ofNat 16 c.urgency) → unsentCall id s = some c →
        (c.retries < s.cfg.callRetries →
          ∃ t, exec (.ask h q v carrier cls age port) s = .next t ∧ OnlyTouches [.cpc, .dsp, .cu, .pbc] s t ∧
            t.cpc = (joinNotices (post (.txDrop 10 w.target) (heardFrom h s))).cpc ∧
            t.pbc = { (heardFrom h s).pbc with txQueue := joinBehind f s.pbc.txQueue.dropLast } ∧
            t.cu = (modifyOwnCall c.slot (fun x =>
              { x with
                state := .retryWait, windowDeadline := none, best := none
                retryDeadline := some (s.deadlineIn s.cfg.callRetryInterval) }) s).cu) ∧
        (s.cfg.callRetries ≤ c.retries → findJob c.tag s = some j →
          ∃ t, exec (.ask h q v carrier cls age port) s = .next t ∧ OnlyTouches [.cpc, .jt, .dsp, .cu, .pbc] s t ∧
            findJob c.tag t = some { (j.toWaiting (some .noLender)) with callBarred := true } ∧
            t.cu.ownCalls.all (fun x => x.slot != c.slot) = true ∧ t.decisionPending = true)))

/-- An answer that matches an ask list entry by station and ask seq acts on it: GRANT, naming the entry's vehicle, makes
it GRANTED with no deadlines and lets a waiting vehicle leave; DEFER makes an ASKING or DEFERRED one DEFERRED with the
later of retry-after and AskRetry; DENY redirects its job with DENIED. A GRANTED entry stays, and an answer that matches
none is discarded (R36, R145, R147). -/
def Obligations.AnswersSettleAskEntries : Prop :=
  ∀ (h : FrameHead) (q reason : Byte) (v : Half) (after : Half) (e : AskEntry) (x : ExitEntry) (j : Job) (r : Vehicle)
      (f : Nat) (s : State),
    HeardAndAccepted h s → Settled s →
    (matchAsk h.sender.toNat q s = none →
      exec (.grant h q v) s = .next (joinNotices (heardFrom h s)) ∧
      exec (.defer h q reason after) s = .next (joinNotices (heardFrom h s)) ∧
      exec (.deny h q reason) s = .next (joinNotices (heardFrom h s))) ∧
    (matchAsk h.sender.toNat q s = some e →
      (e.state = .granted →
        exec (.grant h q v) s = .next (joinNotices (heardFrom h s)) ∧
        exec (.defer h q reason after) s = .next (joinNotices (heardFrom h s)) ∧
        exec (.deny h q reason) s = .next (joinNotices (heardFrom h s))) ∧
      (e.vehicle ≠ v.toNat → exec (.grant h q v) s = .next (joinNotices (heardFrom h s))) ∧
      (e.vehicle = v.toNat → e.state ≠ .granted →
        ∃ t, exec (.grant h q v) s = .next t ∧ OnlyTouches [.cpc, .jt, .flc, .dsp, .hu, .pbc] s t ∧
          t.pbc = (heardFrom h s).pbc ∧
          t.jt = (modifyJob e.tag (fun y => { y with holdReason := none }) s).jt ∧
          t.hu.askList = s.hu.askList.map (fun y =>
            if y.tag = e.tag then { y with state := .granted, retryDeadline := none, admitDeadline := none } else y) ∧
          ((∀ y ∈ s.hu.exitQueue, y.vehicle ≠ v.toNat) → t.hu.exitQueue = s.hu.exitQueue ∧ t.flc = s.flc) ∧
          (s.hu.exitQueue.head? = some x → x.vehicle = v.toNat → x.leaveSent = false →
            findVehicle v.toNat s = some r → r.lend = none → r.currentJob = some j.tag → findJob j.tag s = some j →
            j.dest = .remote h.sender.toNat f → findContext v.toNat s = none →
            (findContext v.toNat t).bind (fun y => y.inFlight.map InFlight.cmd) =
              some (.leave h.sender.toNat))) ∧
      (e.state = .held → exec (.defer h q reason after) s = .next (joinNotices (heardFrom h s))) ∧
      (e.state = .asking ∨ e.state = .deferred →
        ∃ t, exec (.defer h q reason after) s = .next t ∧ OnlyTouches [.cpc, .dsp, .hu, .pbc] s t ∧
          t.pbc = (heardFrom h s).pbc ∧ t.hu.exitQueue = s.hu.exitQueue ∧
          t.hu.askList = s.hu.askList.map (fun y =>
            if y.tag = e.tag then
              { y with
                state := .deferred
                retryDeadline := some (s.now + max (max after.toNat s.cfg.askRetry) 1) }
            else y)) ∧
      (e.state ≠ .granted → findJob e.tag s = some j → j.vehicle = some (v.toNat, .current) →
        findVehicle v.toNat s = some r → s.cfg.fallback = some f → j.reservation = none → j.dest ≠ .here f →
        ∃ t, exec (.deny h q reason) s = .next t ∧ OthersKept [v.toNat] [j.tag] [] s t ∧
          t.cpc = (joinNotices (post (.jobRedirected j.tag j.senderTag v.toNat .denied j.dest) (heardFrom h s))).cpc ∧
          t.hu.askList = s.hu.askList.filter (fun y => y.tag ≠ e.tag) ∧
          t.cfg = s.cfg ∧ t.pbc = (heardFrom h s).pbc ∧ t.vr.passList = s.vr.passList ∧
          findJob j.tag t = some
            { j with
              originalDest := some (j.originalDest.getD j.dest)
              dest := .here f
              askSeq := none
              state := .carrying
              holdReason := none
              reservation := if (getPort f s).hasRoom 0 then some f else none } ∧
          findVehicle v.toNat t = some { r.enter .laden with target := some (getPort f s).position }))

/-- The two frames that settle an EXPECTED record before its vehicle enters. A REFUSE that matches one of kind LENT
removes it and releases the job's reservation: in RUN its taken-call entry returns as an OPEN call with one more retry
used and its CALL queued, the job CALLING again, or, retries used up, the call is exhausted; in ISOLATED the entry
ends and the job returns to WAITING (R28, R54, R124, R126); so it does where no taken-call entry is left (the model's
choice, log 49). A HANDOFF that matches one in AWAIT_HANDOFF makes it IN_TRANSIT with a full TransitLimit: one of kind
LENT ends the taken-call entry, one of kind LADEN gives the INBOUND job its carrier, class, age and moves done, and
its tag, or, where that tag is live, its sender tag (R21, R39, R155). Any other is discarded. The slot of a reopened
call, the entry found by call and vehicle, and tag 0 as no tag are the model's (logs 18, 58 and 21). -/
def Obligations.RefuseAndHandoffSettleExpectedRecords : Prop :=
  ∀ (h : FrameHead) (v : Half) (id : CallId) (q : Byte) (tag : Half) (carrier : Triple) (cls : BitVec 3)
      (age mode port : Byte) (moves : Half) (r : Vehicle) (i : Inbound) (k : TakenCall) (j : Job) (s : State),
    HeardAndAccepted h s → Settled s →
    -- REFUSE
    (expectedFor h.sender.toNat v.toNat (.lent id) s = none →
      exec (.refuse h id v) s = .next (joinNotices (heardFrom h s))) ∧
    (findVehicle v.toNat s = some r → r.state = .expected → r.inbound = some i → i.station = h.sender.toNat →
      i.ref = .lent id →
      ∃ t, exec (.refuse h id v) s = .next t ∧ OnlyTouches [.cpc, .jt, .pt, .vr, .dsp, .cu, .pbc] s t ∧
        t.vr = { s.vr with records := s.vr.records.filter fun x => x.vehicle ≠ v.toNat } ∧
        ((∀ x ∈ s.cu.takenCalls, x.isFor id v.toNat = false) →
          t.cu = s.cu ∧ t.cpc = (joinNotices (heardFrom h s)).cpc ∧ t.pbc = (heardFrom h s).pbc ∧
          (r.currentJob = none → t.jt = s.jt ∧ t.pt = s.pt) ∧
          (r.currentJob = some j.tag → findJob j.tag s = some j →
            OthersKept [v.toNat] [j.tag] [] s t ∧ ReservationMoved j none s t ∧
            findJob j.tag t = some { (j.toWaiting none) with reservation := none } ∧
            (s.cpc.level ≠ .config → t.decisionPending = true))) ∧
        (s.cu.takenCalls.find? (TakenCall.isFor id v.toNat) = some k → findJob k.tag s = some j →
          t.cu.takenCalls = s.cu.takenCalls.filter (fun x => !x.isFor id v.toNat) ∧
          (s.pbc.txQueue.length < 8 → OthersKept [v.toNat] [k.tag] [] s t) ∧
          (s.cpc.level ≠ .config → t.decisionPending = true) ∧
          (∀ p < 48, (getPort p t).reserved =
            (getPort p s).reserved - (if j.reservation = some p then 1 else 0)) ∧
          (s.cpc.level = .run → k.retries < s.cfg.callRetries → s.pbc.txQueue.length < 8 →
            findJob k.tag t = some
              { j with
                state := .calling, holdReason := none, vehicle := none, reservation := none
                callLink := some (lowestSlot s) } ∧
            t.cu.ownCalls = s.cu.ownCalls ++
              [{ slot := lowestSlot s, id := k.id, tag := k.tag, cls := k.cls, urgency := k.urgency,
                 state := .openCall, windowDeadline := none, retryDeadline := none, best := none,
                 retries := k.retries + 1 }] ∧
            InTxQueue
              { target := BitVec.ofNat 8 s.cfg.callGroup
                payload := .call k.id (BitVec.ofNat 3 k.cls) (BitVec.ofNat 16 k.urgency) } t) ∧
          (s.cpc.level = .run → s.cfg.callRetries ≤ k.retries → s.pbc.txQueue.length < 8 →
            findJob k.tag t = some
              { (j.toWaiting (some .noLender)) with callBarred := true, reservation := none } ∧
            t.cpc = (joinNotices (post (.noLender k.tag j.senderTag k.id) (heardFrom h s))).cpc ∧
            t.cu.ownCalls = s.cu.ownCalls ∧
            InTxQueue { target := 63, payload := .close k.id } t) ∧
          (s.cpc.level = .isolated →
            findJob k.tag t = some { (j.toWaiting none) with callBarred := false, reservation := none } ∧
            t.cu.ownCalls = s.cu.ownCalls))) ∧
    -- HANDOFF
    (expectedFor h.sender.toNat v.toNat (.lent id) s = none →
      exec (.handoff h v (.lent id)) s = .next (joinNotices (heardFrom h s))) ∧
    (expectedFor h.sender.toNat v.toNat (.laden q) s = none →
      exec (.handoff h v (.laden q tag carrier cls age mode port moves)) s = .next (joinNotices (heardFrom h s))) ∧
    (findVehicle v.toNat s = some r → r.state = .expected → r.inbound = some i → i.station = h.sender.toNat →
      (i.phase ≠ .awaitHandoff →
        exec (.handoff h v (.lent id)) s = .next (joinNotices (heardFrom h s)) ∧
        exec (.handoff h v (.laden q tag carrier cls age mode port moves)) s =
          .next (joinNotices (heardFrom h s))) ∧
      (i.phase = .awaitHandoff → i.ref = .lent id →
        ∃ t, exec (.handoff h v (.lent id)) s = .next t ∧ OnlyTouches [.cpc, .vr, .dsp, .cu, .pbc] s t ∧
          t.pbc = (heardFrom h s).pbc ∧
          t.cu = { s.cu with takenCalls := s.cu.takenCalls.filter fun x => !x.isFor id v.toNat } ∧
          t.vr = (modifyVehicle v.toNat (fun x =>
            { x with
              inbound := x.inbound.map fun y =>
                { y with phase := .inTransit, deadline := s.deadlineIn (s.cfg.transitLimit * 1000) } }) s).vr) ∧
      (i.phase = .awaitHandoff → i.ref = .laden q → r.currentJob = some j.tag → findJob j.tag s = some j →
        ∃ t, exec (.handoff h v (.laden q tag carrier cls age mode port moves)) s = .next t ∧
          OnlyTouches [.cpc, .jt, .vr, .dsp, .pbc] s t ∧ t.pbc = (heardFrom h s).pbc ∧
          OthersKept [v.toNat] [j.tag, if tag ≠ 0 ∧ findJob tag.toNat s = none then tag.toNat else j.tag] [] s t ∧
          findVehicle v.toNat t = some
            { r with
              laden := some carrier.toNat
              inbound := some
                { i with phase := .inTransit, deadline := s.deadlineIn (s.cfg.transitLimit * 1000) }
              currentJob := some
                (if tag ≠ 0 ∧ findJob tag.toNat s = none then tag.toNat else j.tag) } ∧
          findJob (if tag ≠ 0 ∧ findJob tag.toNat s = none then tag.toNat else j.tag) t = some
            { j with
              tag := if tag ≠ 0 ∧ findJob tag.toNat s = none then tag.toNat else j.tag
              senderTag :=
                if tag ≠ 0 ∧ tag.toNat ≠ j.tag ∧ (findJob tag.toNat s).isSome = true then some tag.toNat
                else j.senderTag
              carrier := carrier.toNat
              cls := cls.toNat
              age := age.toNat
              movesDone := moves.toNat }))

/-! ### The invariants -/

/-- Every invariant below holds after reset. -/
def Obligations.InvariantsHoldAfterReset : Prop :=
  Settled State.reset ∧ KeysDistinct State.reset ∧ BooksBalance State.reset ∧ QueueInKeyOrder State.reset ∧
  RegistersInRange State.reset ∧ PeerTableFits State.reset ∧ RecordsLinked State.reset

/-- Every step leaves the state settled: no notice outside the queue, no LEAVE and no lending round owed (R132, R149,
R180). That these are settled at the end of each step is the model's reading (logs 10 and 32). -/
def Obligations.StepLeavesNothingOwed : Prop :=
  ∀ (s t : State), Settled s → step s = .next t → Settled t

/-- Every step keeps the keys of the Job Table and of the Vehicle Roster distinct, and the tables within their slots
(R18, R63). -/
def Obligations.StepKeepsKeysDistinct : Prop :=
  ∀ (s t : State), KeysDistinct s → step s = .next t → KeysDistinct t

/-- Every step keeps, for every port, the reserved count equal to the number of live jobs that hold a reservation on it,
and both counts within the capacity (R52). -/
def Obligations.StepKeepsReservationsBalanced : Prop :=
  ∀ (s t : State), BooksBalance s → step s = .next t → BooksBalance t

/-- Every step keeps the records of the blocks in agreement: a job names a vehicle in a role exactly when the
vehicle's record names the job in it (R65), and the states of the two go together; every wait is for an ASSIGNED job
whose vehicle stands TO_PICKUP (R57); the own calls and taken-call entries fill at most 4 places, with distinct ids,
each for the job that names it (R117, R126); the incoming call queue and the PLEDGED records name each other (R129); a
job with its carrier aboard for another bay has one ask list entry, and no ask seq is held twice (R141); and the exit
queue holds exactly the HOLDING records, each once (R142). -/
def Obligations.StepKeepsRecordsLinked : Prop :=
  ∀ (s t : State), RecordsLinked s → step s = .next t → RecordsLinked t

/-- Every step keeps the transmit queue within 8 frames and in key order, and empty in ISOLATED (R164, R176); the store,
the counters and the isolation cause in range, the failure count below TxFailLimit in RUN (R166, R170, R182, R185); and
the peer table in its ranges, an entry LIVE exactly while its freshness is above 0, the own one UNKNOWN (R174). -/
def Obligations.StepKeepsBusAndStoreInRange : Prop :=
  ∀ (s t : State),
    (QueueInKeyOrder s → step s = .next t → QueueInKeyOrder t) ∧
    (RegistersInRange s → step s = .next t → RegistersInRange t) ∧
    (PeerTableFits s → step s = .next t → PeerTableFits t)

/-! ### The encodings -/

/-- The bytes of every frame as sent are heard as that frame, and of every host command as written they are read as that
command; no bytes but its own are read as a command (R162, R163, R178, R190, R191, R193). -/
def Obligations.FramesAndCommandsReadBackAsWritten : Prop :=
  ∀ (f : Frame) (c : Instr) (bytes : List Byte),
    hear f.encode = .good f ∧
    (c.wf = true → writeCommand c = some bytes → readCommand bytes = some c ∧ incomplete bytes = false) ∧
    (readCommand bytes = some c → writeCommand c = some bytes ∧ c.wf = true)
end

