-- ==== Sys2Proof/Laws/State.lean ====
section
/-! SUPPORT. One lemma per field for each of the one-block updates of Machine/Ops.lean: the field updated, and every
other field as it was. All are true by `rfl` and simplify by themselves, so that no proof unfolds a record update. -/

namespace Sys2Proof.Machine

@[simp] theorem State.onCpc_cpc (f : Cpc → Cpc) (s : State) : (s.onCpc f).cpc = f s.cpc := rfl

/-- `onCpc` leaves every other block as it was. -/
@[simp] theorem State.onCpc_frame (f : Cpc → Cpc) (s : State) :
    (s.onCpc f).held = s.held ∧ (s.onCpc f).now = s.now ∧ (s.onCpc f).cfg = s.cfg ∧ (s.onCpc f).jt = s.jt ∧
      (s.onCpc f).pt = s.pt ∧ (s.onCpc f).vr = s.vr ∧ (s.onCpc f).flc = s.flc ∧ (s.onCpc f).decisionPending = s.decisionPending ∧
      (s.onCpc f).cu = s.cu ∧ (s.onCpc f).hu = s.hu ∧ (s.onCpc f).pbc = s.pbc ∧ (s.onCpc f).pending = s.pending :=
  ⟨rfl, rfl, rfl, rfl, rfl, rfl, rfl, rfl, rfl, rfl, rfl, rfl⟩

@[simp] theorem State.onJt_jt (f : JobTable → JobTable) (s : State) : (s.onJt f).jt = f s.jt := rfl

/-- `onJt` leaves every other block as it was. -/
@[simp] theorem State.onJt_frame (f : JobTable → JobTable) (s : State) :
    (s.onJt f).held = s.held ∧ (s.onJt f).now = s.now ∧ (s.onJt f).cfg = s.cfg ∧ (s.onJt f).cpc = s.cpc ∧
      (s.onJt f).pt = s.pt ∧ (s.onJt f).vr = s.vr ∧ (s.onJt f).flc = s.flc ∧ (s.onJt f).decisionPending = s.decisionPending ∧
      (s.onJt f).cu = s.cu ∧ (s.onJt f).hu = s.hu ∧ (s.onJt f).pbc = s.pbc ∧ (s.onJt f).pending = s.pending :=
  ⟨rfl, rfl, rfl, rfl, rfl, rfl, rfl, rfl, rfl, rfl, rfl, rfl⟩

@[simp] theorem State.onPt_pt (f : Vector Port 48 → Vector Port 48) (s : State) : (s.onPt f).pt = f s.pt := rfl

/-- `onPt` leaves every other block as it was. -/
@[simp] theorem State.onPt_frame (f : Vector Port 48 → Vector Port 48) (s : State) :
    (s.onPt f).held = s.held ∧ (s.onPt f).now = s.now ∧ (s.onPt f).cfg = s.cfg ∧ (s.onPt f).cpc = s.cpc ∧
      (s.onPt f).jt = s.jt ∧ (s.onPt f).vr = s.vr ∧ (s.onPt f).flc = s.flc ∧ (s.onPt f).decisionPending = s.decisionPending ∧
      (s.onPt f).cu = s.cu ∧ (s.onPt f).hu = s.hu ∧ (s.onPt f).pbc = s.pbc ∧ (s.onPt f).pending = s.pending :=
  ⟨rfl, rfl, rfl, rfl, rfl, rfl, rfl, rfl, rfl, rfl, rfl, rfl⟩

@[simp] theorem State.onVr_vr (f : Roster → Roster) (s : State) : (s.onVr f).vr = f s.vr := rfl

/-- `onVr` leaves every other block as it was. -/
@[simp] theorem State.onVr_frame (f : Roster → Roster) (s : State) :
    (s.onVr f).held = s.held ∧ (s.onVr f).now = s.now ∧ (s.onVr f).cfg = s.cfg ∧ (s.onVr f).cpc = s.cpc ∧
      (s.onVr f).jt = s.jt ∧ (s.onVr f).pt = s.pt ∧ (s.onVr f).flc = s.flc ∧ (s.onVr f).decisionPending = s.decisionPending ∧
      (s.onVr f).cu = s.cu ∧ (s.onVr f).hu = s.hu ∧ (s.onVr f).pbc = s.pbc ∧ (s.onVr f).pending = s.pending :=
  ⟨rfl, rfl, rfl, rfl, rfl, rfl, rfl, rfl, rfl, rfl, rfl, rfl⟩

@[simp] theorem State.onFlc_flc (f : Feeder → Feeder) (s : State) : (s.onFlc f).flc = f s.flc := rfl

/-- `onFlc` leaves every other block as it was. -/
@[simp] theorem State.onFlc_frame (f : Feeder → Feeder) (s : State) :
    (s.onFlc f).held = s.held ∧ (s.onFlc f).now = s.now ∧ (s.onFlc f).cfg = s.cfg ∧ (s.onFlc f).cpc = s.cpc ∧
      (s.onFlc f).jt = s.jt ∧ (s.onFlc f).pt = s.pt ∧ (s.onFlc f).vr = s.vr ∧ (s.onFlc f).decisionPending = s.decisionPending ∧
      (s.onFlc f).cu = s.cu ∧ (s.onFlc f).hu = s.hu ∧ (s.onFlc f).pbc = s.pbc ∧ (s.onFlc f).pending = s.pending :=
  ⟨rfl, rfl, rfl, rfl, rfl, rfl, rfl, rfl, rfl, rfl, rfl, rfl⟩

@[simp] theorem State.onCu_cu (f : CallUnit → CallUnit) (s : State) : (s.onCu f).cu = f s.cu := rfl

/-- `onCu` leaves every other block as it was. -/
@[simp] theorem State.onCu_frame (f : CallUnit → CallUnit) (s : State) :
    (s.onCu f).held = s.held ∧ (s.onCu f).now = s.now ∧ (s.onCu f).cfg = s.cfg ∧ (s.onCu f).cpc = s.cpc ∧
      (s.onCu f).jt = s.jt ∧ (s.onCu f).pt = s.pt ∧ (s.onCu f).vr = s.vr ∧ (s.onCu f).flc = s.flc ∧
      (s.onCu f).decisionPending = s.decisionPending ∧ (s.onCu f).hu = s.hu ∧ (s.onCu f).pbc = s.pbc ∧ (s.onCu f).pending = s.pending :=
  ⟨rfl, rfl, rfl, rfl, rfl, rfl, rfl, rfl, rfl, rfl, rfl, rfl⟩

@[simp] theorem State.onHu_hu (f : Handover → Handover) (s : State) : (s.onHu f).hu = f s.hu := rfl

/-- `onHu` leaves every other block as it was. -/
@[simp] theorem State.onHu_frame (f : Handover → Handover) (s : State) :
    (s.onHu f).held = s.held ∧ (s.onHu f).now = s.now ∧ (s.onHu f).cfg = s.cfg ∧ (s.onHu f).cpc = s.cpc ∧
      (s.onHu f).jt = s.jt ∧ (s.onHu f).pt = s.pt ∧ (s.onHu f).vr = s.vr ∧ (s.onHu f).flc = s.flc ∧
      (s.onHu f).decisionPending = s.decisionPending ∧ (s.onHu f).cu = s.cu ∧ (s.onHu f).pbc = s.pbc ∧ (s.onHu f).pending = s.pending :=
  ⟨rfl, rfl, rfl, rfl, rfl, rfl, rfl, rfl, rfl, rfl, rfl, rfl⟩

@[simp] theorem State.onPbc_pbc (f : PeerBus → PeerBus) (s : State) : (s.onPbc f).pbc = f s.pbc := rfl

/-- `onPbc` leaves every other block as it was. -/
@[simp] theorem State.onPbc_frame (f : PeerBus → PeerBus) (s : State) :
    (s.onPbc f).held = s.held ∧ (s.onPbc f).now = s.now ∧ (s.onPbc f).cfg = s.cfg ∧ (s.onPbc f).cpc = s.cpc ∧
      (s.onPbc f).jt = s.jt ∧ (s.onPbc f).pt = s.pt ∧ (s.onPbc f).vr = s.vr ∧ (s.onPbc f).flc = s.flc ∧
      (s.onPbc f).decisionPending = s.decisionPending ∧ (s.onPbc f).cu = s.cu ∧ (s.onPbc f).hu = s.hu ∧ (s.onPbc f).pending = s.pending :=
  ⟨rfl, rfl, rfl, rfl, rfl, rfl, rfl, rfl, rfl, rfl, rfl, rfl⟩

@[simp] theorem State.onCfg_cfg (f : Cfg → Cfg) (s : State) : (s.onCfg f).cfg = f s.cfg := rfl

/-- `onCfg` leaves every other block as it was. -/
@[simp] theorem State.onCfg_frame (f : Cfg → Cfg) (s : State) :
    (s.onCfg f).held = s.held ∧ (s.onCfg f).now = s.now ∧ (s.onCfg f).cpc = s.cpc ∧ (s.onCfg f).jt = s.jt ∧
      (s.onCfg f).pt = s.pt ∧ (s.onCfg f).vr = s.vr ∧ (s.onCfg f).flc = s.flc ∧ (s.onCfg f).decisionPending = s.decisionPending ∧
      (s.onCfg f).cu = s.cu ∧ (s.onCfg f).hu = s.hu ∧ (s.onCfg f).pbc = s.pbc ∧ (s.onCfg f).pending = s.pending :=
  ⟨rfl, rfl, rfl, rfl, rfl, rfl, rfl, rfl, rfl, rfl, rfl, rfl⟩

@[simp] theorem State.setPending_decisionPending (b : Bool) (s : State) : (s.setPending b).decisionPending = b := rfl

/-- `setPending` leaves every block as it was. -/
@[simp] theorem State.setPending_frame (b : Bool) (s : State) :
    (s.setPending b).held = s.held ∧ (s.setPending b).now = s.now ∧ (s.setPending b).cfg = s.cfg ∧ (s.setPending b).cpc = s.cpc ∧
      (s.setPending b).jt = s.jt ∧ (s.setPending b).pt = s.pt ∧ (s.setPending b).vr = s.vr ∧ (s.setPending b).flc = s.flc ∧
      (s.setPending b).cu = s.cu ∧ (s.setPending b).hu = s.hu ∧ (s.setPending b).pbc = s.pbc ∧ (s.setPending b).pending = s.pending :=
  ⟨rfl, rfl, rfl, rfl, rfl, rfl, rfl, rfl, rfl, rfl, rfl, rfl⟩

end Sys2Proof.Machine
end

