-- ==== Sys2Proof/Laws/Ops.lean ====
section
/-! SUPPORT. Frames: for the shared operations of Machine/Ops.lean, the blocks each leaves as they were. -/

namespace Sys2Proof.Machine

/-- A projection that every turn of a fold keeps is kept by the fold. -/
theorem foldl_keeps {α β γ : Type} (g : β → γ) (f : β → α → β) (h : ∀ b a, g (f b a) = g b) (l : List α) (b : β) :
    g (l.foldl f b) = g b := by
  induction l generalizing b with
  | nil => rfl
  | cons a l ih => simp [ih, h]

/-- What `post` leaves unchanged. -/
@[simp] theorem post_frame (b : NoticeBody) (s : State) :
    (post b s).held = s.held ∧ (post b s).now = s.now ∧ (post b s).cfg = s.cfg ∧ (post b s).jt = s.jt ∧
      (post b s).pt = s.pt ∧ (post b s).vr = s.vr ∧ (post b s).flc = s.flc ∧
      (post b s).decisionPending = s.decisionPending ∧ (post b s).cu = s.cu ∧ (post b s).hu = s.hu ∧
      (post b s).pbc = s.pbc ∧ (post b s).pending = s.pending := by
  simp [post]

/-- What `joinNotices` leaves unchanged. -/
@[simp] theorem joinNotices_frame (s : State) :
    (joinNotices s).held = s.held ∧ (joinNotices s).now = s.now ∧ (joinNotices s).cfg = s.cfg ∧
      (joinNotices s).jt = s.jt ∧ (joinNotices s).pt = s.pt ∧ (joinNotices s).vr = s.vr ∧
      (joinNotices s).flc = s.flc ∧ (joinNotices s).decisionPending = s.decisionPending ∧
      (joinNotices s).cu = s.cu ∧ (joinNotices s).hu = s.hu ∧ (joinNotices s).pbc = s.pbc ∧
      (joinNotices s).pending = s.pending := by
  simp [joinNotices]

/-- What `wake` leaves unchanged. -/
@[simp] theorem wake_frame (s : State) :
    (wake s).held = s.held ∧ (wake s).now = s.now ∧ (wake s).cfg = s.cfg ∧ (wake s).cpc = s.cpc ∧
      (wake s).jt = s.jt ∧ (wake s).pt = s.pt ∧ (wake s).vr = s.vr ∧ (wake s).flc = s.flc ∧ (wake s).cu = s.cu ∧
      (wake s).hu = s.hu ∧ (wake s).pbc = s.pbc ∧ (wake s).pending = s.pending := by
  unfold wake
  repeat' split
  all_goals simp

/-- What `startQuietTimer` leaves unchanged. -/
@[simp] theorem startQuietTimer_frame (s : State) :
    (startQuietTimer s).held = s.held ∧ (startQuietTimer s).now = s.now ∧ (startQuietTimer s).cfg = s.cfg ∧
      (startQuietTimer s).cpc = s.cpc ∧ (startQuietTimer s).jt = s.jt ∧ (startQuietTimer s).pt = s.pt ∧
      (startQuietTimer s).vr = s.vr ∧ (startQuietTimer s).flc = s.flc ∧
      (startQuietTimer s).decisionPending = s.decisionPending ∧ (startQuietTimer s).hu = s.hu ∧
      (startQuietTimer s).pbc = s.pbc ∧ (startQuietTimer s).pending = s.pending := by
  simp [startQuietTimer]

/-- What `modifyJob` leaves unchanged. -/
@[simp] theorem modifyJob_frame (tag : Nat) (f : Job → Job) (s : State) :
    (modifyJob tag f s).held = s.held ∧ (modifyJob tag f s).now = s.now ∧ (modifyJob tag f s).cfg = s.cfg ∧
      (modifyJob tag f s).cpc = s.cpc ∧ (modifyJob tag f s).pt = s.pt ∧ (modifyJob tag f s).vr = s.vr ∧
      (modifyJob tag f s).flc = s.flc ∧ (modifyJob tag f s).decisionPending = s.decisionPending ∧
      (modifyJob tag f s).cu = s.cu ∧ (modifyJob tag f s).hu = s.hu ∧ (modifyJob tag f s).pbc = s.pbc ∧
      (modifyJob tag f s).pending = s.pending := by
  simp [modifyJob]

/-- What `jobToWaiting` leaves unchanged. -/
@[simp] theorem jobToWaiting_frame (tag : Nat) (reason : Option HoldReason) (s : State) :
    (jobToWaiting tag reason s).held = s.held ∧ (jobToWaiting tag reason s).now = s.now ∧
      (jobToWaiting tag reason s).cfg = s.cfg ∧ (jobToWaiting tag reason s).cpc = s.cpc ∧
      (jobToWaiting tag reason s).pt = s.pt ∧ (jobToWaiting tag reason s).vr = s.vr ∧
      (jobToWaiting tag reason s).flc = s.flc ∧ (jobToWaiting tag reason s).cu = s.cu ∧
      (jobToWaiting tag reason s).hu = s.hu ∧ (jobToWaiting tag reason s).pbc = s.pbc ∧
      (jobToWaiting tag reason s).pending = s.pending := by
  simp [jobToWaiting]

/-- What `modifyPort` leaves unchanged. -/
@[simp] theorem modifyPort_frame (p : Nat) (f : Port → Port) (s : State) :
    (modifyPort p f s).held = s.held ∧ (modifyPort p f s).now = s.now ∧ (modifyPort p f s).cfg = s.cfg ∧
      (modifyPort p f s).cpc = s.cpc ∧ (modifyPort p f s).jt = s.jt ∧ (modifyPort p f s).vr = s.vr ∧
      (modifyPort p f s).flc = s.flc ∧ (modifyPort p f s).decisionPending = s.decisionPending ∧
      (modifyPort p f s).cu = s.cu ∧ (modifyPort p f s).hu = s.hu ∧ (modifyPort p f s).pbc = s.pbc ∧
      (modifyPort p f s).pending = s.pending := by
  simp [modifyPort]

/-- What `setOccupied` leaves unchanged. -/
@[simp] theorem setOccupied_frame (p n : Nat) (s : State) :
    (setOccupied p n s).held = s.held ∧ (setOccupied p n s).now = s.now ∧ (setOccupied p n s).cfg = s.cfg ∧
      (setOccupied p n s).cpc = s.cpc ∧ (setOccupied p n s).jt = s.jt ∧ (setOccupied p n s).vr = s.vr ∧
      (setOccupied p n s).flc = s.flc ∧ (setOccupied p n s).cu = s.cu ∧ (setOccupied p n s).hu = s.hu ∧
      (setOccupied p n s).pbc = s.pbc ∧ (setOccupied p n s).pending = s.pending := by
  unfold setOccupied
  repeat' split
  all_goals simp

/-- What `releaseReservation` leaves unchanged. -/
@[simp] theorem releaseReservation_frame (tag : Nat) (s : State) :
    (releaseReservation tag s).held = s.held ∧ (releaseReservation tag s).now = s.now ∧
      (releaseReservation tag s).cfg = s.cfg ∧ (releaseReservation tag s).cpc = s.cpc ∧
      (releaseReservation tag s).vr = s.vr ∧ (releaseReservation tag s).flc = s.flc ∧
      (releaseReservation tag s).cu = s.cu ∧ (releaseReservation tag s).hu = s.hu ∧
      (releaseReservation tag s).pbc = s.pbc ∧ (releaseReservation tag s).pending = s.pending := by
  unfold releaseReservation
  repeat' split
  all_goals simp

/-- What `reserve` leaves unchanged. -/
@[simp] theorem reserve_frame (tag p : Nat) (s : State) :
    (((reserve tag p s).getD s)).held = s.held ∧ (((reserve tag p s).getD s)).now = s.now ∧
      (((reserve tag p s).getD s)).cfg = s.cfg ∧ (((reserve tag p s).getD s)).cpc = s.cpc ∧
      (((reserve tag p s).getD s)).vr = s.vr ∧ (((reserve tag p s).getD s)).flc = s.flc ∧
      (((reserve tag p s).getD s)).cu = s.cu ∧ (((reserve tag p s).getD s)).hu = s.hu ∧
      (((reserve tag p s).getD s)).pbc = s.pbc ∧ (((reserve tag p s).getD s)).pending = s.pending := by
  unfold reserve
  dsimp only
  repeat' split
  all_goals simp

/-- What `tryReserve` leaves unchanged. -/
@[simp] theorem tryReserve_frame (tag p : Nat) (s : State) :
    (tryReserve tag p s).held = s.held ∧ (tryReserve tag p s).now = s.now ∧ (tryReserve tag p s).cfg = s.cfg ∧
      (tryReserve tag p s).cpc = s.cpc ∧ (tryReserve tag p s).vr = s.vr ∧ (tryReserve tag p s).flc = s.flc ∧
      (tryReserve tag p s).cu = s.cu ∧ (tryReserve tag p s).hu = s.hu ∧ (tryReserve tag p s).pbc = s.pbc ∧
      (tryReserve tag p s).pending = s.pending := by
  simp [tryReserve]

/-- What `endWait` leaves unchanged. -/
@[simp] theorem endWait_frame (tag : Nat) (s : State) :
    (endWait tag s).held = s.held ∧ (endWait tag s).now = s.now ∧ (endWait tag s).cfg = s.cfg ∧
      (endWait tag s).cpc = s.cpc ∧ (endWait tag s).jt = s.jt ∧ (endWait tag s).vr = s.vr ∧
      (endWait tag s).flc = s.flc ∧ (endWait tag s).decisionPending = s.decisionPending ∧
      (endWait tag s).cu = s.cu ∧ (endWait tag s).hu = s.hu ∧ (endWait tag s).pbc = s.pbc ∧
      (endWait tag s).pending = s.pending := by
  simp [endWait]

/-- What `modifyVehicle` leaves unchanged. -/
@[simp] theorem modifyVehicle_frame (v : Nat) (f : Vehicle → Vehicle) (s : State) :
    (modifyVehicle v f s).held = s.held ∧ (modifyVehicle v f s).now = s.now ∧ (modifyVehicle v f s).cfg = s.cfg ∧
      (modifyVehicle v f s).cpc = s.cpc ∧ (modifyVehicle v f s).jt = s.jt ∧ (modifyVehicle v f s).pt = s.pt ∧
      (modifyVehicle v f s).flc = s.flc ∧ (modifyVehicle v f s).decisionPending = s.decisionPending ∧
      (modifyVehicle v f s).cu = s.cu ∧ (modifyVehicle v f s).hu = s.hu ∧ (modifyVehicle v f s).pbc = s.pbc ∧
      (modifyVehicle v f s).pending = s.pending := by
  simp [modifyVehicle]

/-- What `removeVehicle` leaves unchanged. -/
@[simp] theorem removeVehicle_frame (v : Nat) (s : State) :
    (removeVehicle v s).held = s.held ∧ (removeVehicle v s).now = s.now ∧ (removeVehicle v s).cfg = s.cfg ∧
      (removeVehicle v s).cpc = s.cpc ∧ (removeVehicle v s).jt = s.jt ∧ (removeVehicle v s).pt = s.pt ∧
      (removeVehicle v s).flc = s.flc ∧ (removeVehicle v s).decisionPending = s.decisionPending ∧
      (removeVehicle v s).cu = s.cu ∧ (removeVehicle v s).hu = s.hu ∧ (removeVehicle v s).pbc = s.pbc ∧
      (removeVehicle v s).pending = s.pending := by
  simp [removeVehicle]

/-- What `becomeIdle` leaves unchanged. -/
@[simp] theorem becomeIdle_frame (v : Nat) (s : State) :
    (becomeIdle v s).held = s.held ∧ (becomeIdle v s).now = s.now ∧ (becomeIdle v s).cfg = s.cfg ∧
      (becomeIdle v s).cpc = s.cpc ∧ (becomeIdle v s).jt = s.jt ∧ (becomeIdle v s).pt = s.pt ∧
      (becomeIdle v s).flc = s.flc ∧ (becomeIdle v s).cu = s.cu ∧ (becomeIdle v s).hu = s.hu ∧
      (becomeIdle v s).pbc = s.pbc ∧ (becomeIdle v s).pending = s.pending := by
  simp [becomeIdle]

/-- What `unbindRecord` leaves unchanged. -/
@[simp] theorem unbindRecord_frame (v tag : Nat) (s : State) :
    (unbindRecord v tag s).held = s.held ∧ (unbindRecord v tag s).now = s.now ∧
      (unbindRecord v tag s).cfg = s.cfg ∧ (unbindRecord v tag s).cpc = s.cpc ∧ (unbindRecord v tag s).jt = s.jt ∧
      (unbindRecord v tag s).pt = s.pt ∧ (unbindRecord v tag s).flc = s.flc ∧
      (unbindRecord v tag s).decisionPending = s.decisionPending ∧ (unbindRecord v tag s).cu = s.cu ∧
      (unbindRecord v tag s).hu = s.hu ∧ (unbindRecord v tag s).pbc = s.pbc ∧
      (unbindRecord v tag s).pending = s.pending := by
  simp [unbindRecord]

/-- What `retire` leaves unchanged. -/
@[simp] theorem retire_frame (tag : Nat) (notice : Option NoticeBody) (s : State) :
    (retire tag notice s).held = s.held ∧ (retire tag notice s).now = s.now ∧ (retire tag notice s).cfg = s.cfg ∧
      (retire tag notice s).flc = s.flc ∧ (retire tag notice s).hu = s.hu ∧ (retire tag notice s).pbc = s.pbc ∧
      (retire tag notice s).pending = s.pending := by
  unfold retire
  repeat' split
  all_goals simp

/-- What `modifyPeer` leaves unchanged. -/
@[simp] theorem modifyPeer_frame (st : Nat) (f : Peer → Peer) (s : State) :
    (modifyPeer st f s).held = s.held ∧ (modifyPeer st f s).now = s.now ∧ (modifyPeer st f s).cfg = s.cfg ∧
      (modifyPeer st f s).cpc = s.cpc ∧ (modifyPeer st f s).jt = s.jt ∧ (modifyPeer st f s).pt = s.pt ∧
      (modifyPeer st f s).vr = s.vr ∧ (modifyPeer st f s).flc = s.flc ∧
      (modifyPeer st f s).decisionPending = s.decisionPending ∧ (modifyPeer st f s).cu = s.cu ∧
      (modifyPeer st f s).hu = s.hu ∧ (modifyPeer st f s).pending = s.pending := by
  simp [modifyPeer]

end Sys2Proof.Machine
end

