-- ==== Sys2Proof/Laws/Feeder.lean ====
section
/-! SUPPORT. Frames: for the operations of Machine/Feeder.lean, the blocks each leaves as they were. -/

namespace Sys2Proof.Machine

/-- What `setLink` leaves unchanged. -/
@[simp] theorem setLink_frame (e : LinkEntry) (s : State) :
    (setLink e s).held = s.held ∧ (setLink e s).now = s.now ∧ (setLink e s).cfg = s.cfg ∧
      (setLink e s).cpc = s.cpc ∧ (setLink e s).jt = s.jt ∧ (setLink e s).pt = s.pt ∧ (setLink e s).vr = s.vr ∧
      (setLink e s).decisionPending = s.decisionPending ∧ (setLink e s).cu = s.cu ∧ (setLink e s).hu = s.hu ∧
      (setLink e s).pbc = s.pbc ∧ (setLink e s).pending = s.pending := by
  simp [setLink]

/-- What `countFormFailure` leaves unchanged. -/
@[simp] theorem countFormFailure_frame (s : State) :
    (countFormFailure s).held = s.held ∧ (countFormFailure s).now = s.now ∧ (countFormFailure s).cfg = s.cfg ∧
      (countFormFailure s).cpc = s.cpc ∧ (countFormFailure s).jt = s.jt ∧ (countFormFailure s).pt = s.pt ∧
      (countFormFailure s).vr = s.vr ∧ (countFormFailure s).decisionPending = s.decisionPending ∧
      (countFormFailure s).cu = s.cu ∧ (countFormFailure s).hu = s.hu ∧ (countFormFailure s).pbc = s.pbc ∧
      (countFormFailure s).pending = s.pending := by
  simp [countFormFailure]

/-- What `countFormatError` leaves unchanged. -/
@[simp] theorem countFormatError_frame (v : Nat) (s : State) :
    (countFormatError v s).held = s.held ∧ (countFormatError v s).now = s.now ∧
      (countFormatError v s).cfg = s.cfg ∧ (countFormatError v s).cpc = s.cpc ∧ (countFormatError v s).jt = s.jt ∧
      (countFormatError v s).pt = s.pt ∧ (countFormatError v s).vr = s.vr ∧
      (countFormatError v s).decisionPending = s.decisionPending ∧ (countFormatError v s).cu = s.cu ∧
      (countFormatError v s).hu = s.hu ∧ (countFormatError v s).pbc = s.pbc ∧
      (countFormatError v s).pending = s.pending := by
  simp [countFormatError]

/-- What `countUnmatched` leaves unchanged. -/
@[simp] theorem countUnmatched_frame (s : State) :
    (countUnmatched s).held = s.held ∧ (countUnmatched s).now = s.now ∧ (countUnmatched s).cfg = s.cfg ∧
      (countUnmatched s).cpc = s.cpc ∧ (countUnmatched s).jt = s.jt ∧ (countUnmatched s).pt = s.pt ∧
      (countUnmatched s).vr = s.vr ∧ (countUnmatched s).decisionPending = s.decisionPending ∧
      (countUnmatched s).cu = s.cu ∧ (countUnmatched s).hu = s.hu ∧ (countUnmatched s).pbc = s.pbc ∧
      (countUnmatched s).pending = s.pending := by
  simp [countUnmatched]

/-- What `transmit` leaves unchanged. -/
@[simp] theorem transmit_frame (v : Nat) (c : FeederCmd) (s : State) :
    (transmit v c s).held = s.held ∧ (transmit v c s).now = s.now ∧ (transmit v c s).cfg = s.cfg ∧
      (transmit v c s).cpc = s.cpc ∧ (transmit v c s).jt = s.jt ∧ (transmit v c s).pt = s.pt ∧
      (transmit v c s).vr = s.vr ∧ (transmit v c s).decisionPending = s.decisionPending ∧
      (transmit v c s).cu = s.cu ∧ (transmit v c s).hu = s.hu ∧ (transmit v c s).pbc = s.pbc ∧
      (transmit v c s).pending = s.pending := by
  simp [transmit]

/-- What `putContext` leaves unchanged. -/
@[simp] theorem putContext_frame (c : Context) (s : State) :
    (putContext c s).held = s.held ∧ (putContext c s).now = s.now ∧ (putContext c s).cfg = s.cfg ∧
      (putContext c s).cpc = s.cpc ∧ (putContext c s).jt = s.jt ∧ (putContext c s).pt = s.pt ∧
      (putContext c s).vr = s.vr ∧ (putContext c s).decisionPending = s.decisionPending ∧
      (putContext c s).cu = s.cu ∧ (putContext c s).hu = s.hu ∧ (putContext c s).pbc = s.pbc ∧
      (putContext c s).pending = s.pending := by
  simp [putContext]

/-- What `goInFlight` leaves unchanged. -/
@[simp] theorem goInFlight_frame (v : Nat) (c : FeederCmd) (s : State) :
    (goInFlight v c s).held = s.held ∧ (goInFlight v c s).now = s.now ∧ (goInFlight v c s).cfg = s.cfg ∧
      (goInFlight v c s).cpc = s.cpc ∧ (goInFlight v c s).jt = s.jt ∧ (goInFlight v c s).pt = s.pt ∧
      (goInFlight v c s).vr = s.vr ∧ (goInFlight v c s).decisionPending = s.decisionPending ∧
      (goInFlight v c s).cu = s.cu ∧ (goInFlight v c s).hu = s.hu ∧ (goInFlight v c s).pbc = s.pbc ∧
      (goInFlight v c s).pending = s.pending := by
  simp [goInFlight]

/-- What `requestCmd` leaves unchanged. -/
@[simp] theorem requestCmd_frame (v : Nat) (c : FeederCmd) (s : State) :
    (requestCmd v c s).held = s.held ∧ (requestCmd v c s).now = s.now ∧ (requestCmd v c s).cfg = s.cfg ∧
      (requestCmd v c s).cpc = s.cpc ∧ (requestCmd v c s).jt = s.jt ∧ (requestCmd v c s).pt = s.pt ∧
      (requestCmd v c s).vr = s.vr ∧ (requestCmd v c s).decisionPending = s.decisionPending ∧
      (requestCmd v c s).cu = s.cu ∧ (requestCmd v c s).hu = s.hu ∧ (requestCmd v c s).pbc = s.pbc ∧
      (requestCmd v c s).pending = s.pending := by
  unfold requestCmd
  dsimp only
  repeat' split
  all_goals simp

/-- What `requestHalt` leaves unchanged. -/
@[simp] theorem requestHalt_frame (v : Nat) (s : State) :
    (requestHalt v s).held = s.held ∧ (requestHalt v s).now = s.now ∧ (requestHalt v s).cfg = s.cfg ∧
      (requestHalt v s).cpc = s.cpc ∧ (requestHalt v s).jt = s.jt ∧ (requestHalt v s).pt = s.pt ∧
      (requestHalt v s).vr = s.vr ∧ (requestHalt v s).decisionPending = s.decisionPending ∧
      (requestHalt v s).cu = s.cu ∧ (requestHalt v s).hu = s.hu ∧ (requestHalt v s).pbc = s.pbc ∧
      (requestHalt v s).pending = s.pending := by
  unfold requestHalt
  dsimp only
  repeat' split
  all_goals simp

/-- What `advanceContext` leaves unchanged. -/
@[simp] theorem advanceContext_frame (v : Nat) (s : State) :
    (advanceContext v s).held = s.held ∧ (advanceContext v s).now = s.now ∧ (advanceContext v s).cfg = s.cfg ∧
      (advanceContext v s).cpc = s.cpc ∧ (advanceContext v s).jt = s.jt ∧ (advanceContext v s).pt = s.pt ∧
      (advanceContext v s).vr = s.vr ∧ (advanceContext v s).decisionPending = s.decisionPending ∧
      (advanceContext v s).cu = s.cu ∧ (advanceContext v s).hu = s.hu ∧ (advanceContext v s).pbc = s.pbc ∧
      (advanceContext v s).pending = s.pending := by
  unfold advanceContext
  dsimp only
  repeat' split
  all_goals simp

/-- What `clearAll` leaves unchanged. -/
@[simp] theorem clearAll_frame (v : Nat) (s : State) :
    (clearAll v s).held = s.held ∧ (clearAll v s).now = s.now ∧ (clearAll v s).cfg = s.cfg ∧
      (clearAll v s).cpc = s.cpc ∧ (clearAll v s).jt = s.jt ∧ (clearAll v s).pt = s.pt ∧ (clearAll v s).vr = s.vr ∧
      (clearAll v s).decisionPending = s.decisionPending ∧ (clearAll v s).cu = s.cu ∧ (clearAll v s).hu = s.hu ∧
      (clearAll v s).pbc = s.pbc ∧ (clearAll v s).pending = s.pending := by
  simp [clearAll]

/-- What `clearQueued` leaves unchanged. -/
@[simp] theorem clearQueued_frame (v : Nat) (s : State) :
    (clearQueued v s).held = s.held ∧ (clearQueued v s).now = s.now ∧ (clearQueued v s).cfg = s.cfg ∧
      (clearQueued v s).cpc = s.cpc ∧ (clearQueued v s).jt = s.jt ∧ (clearQueued v s).pt = s.pt ∧
      (clearQueued v s).vr = s.vr ∧ (clearQueued v s).decisionPending = s.decisionPending ∧
      (clearQueued v s).cu = s.cu ∧ (clearQueued v s).hu = s.hu ∧ (clearQueued v s).pbc = s.pbc ∧
      (clearQueued v s).pending = s.pending := by
  unfold clearQueued
  repeat' split
  all_goals simp

/-- What `supersede` leaves unchanged. -/
@[simp] theorem supersede_frame (v : Nat) (s : State) :
    (supersede v s).held = s.held ∧ (supersede v s).now = s.now ∧ (supersede v s).cfg = s.cfg ∧
      (supersede v s).cpc = s.cpc ∧ (supersede v s).jt = s.jt ∧ (supersede v s).pt = s.pt ∧
      (supersede v s).vr = s.vr ∧ (supersede v s).decisionPending = s.decisionPending ∧ (supersede v s).cu = s.cu ∧
      (supersede v s).hu = s.hu ∧ (supersede v s).pbc = s.pbc ∧ (supersede v s).pending = s.pending := by
  simp [supersede]

/-- What `requestGoto` leaves unchanged. -/
@[simp] theorem requestGoto_frame (v t : Nat) (s : State) :
    (requestGoto v t s).held = s.held ∧ (requestGoto v t s).now = s.now ∧ (requestGoto v t s).cfg = s.cfg ∧
      (requestGoto v t s).cpc = s.cpc ∧ (requestGoto v t s).jt = s.jt ∧ (requestGoto v t s).pt = s.pt ∧
      (requestGoto v t s).decisionPending = s.decisionPending ∧ (requestGoto v t s).cu = s.cu ∧
      (requestGoto v t s).hu = s.hu ∧ (requestGoto v t s).pbc = s.pbc ∧ (requestGoto v t s).pending = s.pending := by
  simp [requestGoto]

end Sys2Proof.Machine
end

