-- ==== Sys2Proof/Laws/Bus.lean ====
section
/-! SUPPORT. Frames: for the operations of Machine/Bus.lean, the blocks each leaves as they were. -/

namespace Sys2Proof.Machine

/-- What `setQueue` leaves unchanged. -/
@[simp] theorem setQueue_frame (q : List TxFrame) (s : State) :
    (setQueue q s).held = s.held ∧ (setQueue q s).now = s.now ∧ (setQueue q s).cfg = s.cfg ∧
      (setQueue q s).cpc = s.cpc ∧ (setQueue q s).jt = s.jt ∧ (setQueue q s).pt = s.pt ∧ (setQueue q s).vr = s.vr ∧
      (setQueue q s).flc = s.flc ∧ (setQueue q s).decisionPending = s.decisionPending ∧ (setQueue q s).cu = s.cu ∧
      (setQueue q s).hu = s.hu ∧ (setQueue q s).pending = s.pending := by
  simp [setQueue]

/-- What `queueNew` leaves unchanged. -/
@[simp] theorem queueNew_frame (f : TxFrame) (q : List TxFrame) (s : State) :
    (queueNew f q s).held = s.held ∧ (queueNew f q s).now = s.now ∧ (queueNew f q s).cfg = s.cfg ∧
      (queueNew f q s).cpc = s.cpc ∧ (queueNew f q s).jt = s.jt ∧ (queueNew f q s).pt = s.pt ∧
      (queueNew f q s).vr = s.vr ∧ (queueNew f q s).flc = s.flc ∧
      (queueNew f q s).decisionPending = s.decisionPending ∧ (queueNew f q s).cu = s.cu ∧
      (queueNew f q s).hu = s.hu ∧ (queueNew f q s).pending = s.pending := by
  simp [queueNew]

/-- A frame that is no BEACON changes the queue alone. -/
theorem queueNew_of_other (f : TxFrame) (q : List TxFrame) (s : State) (h : f.isBeacon = false) :
    queueNew f q s = setQueue q s := by simp [queueNew, setQueue, h]

/-- A BEACON marks the frame on the line. -/
theorem queueNew_of_beacon (f : TxFrame) (q : List TxFrame) (s : State) (h : f.isBeacon = true) :
    queueNew f q s =
      s.onPbc fun b =>
        { b with txQueue := q, onLine := b.onLine.map fun o => { o with newerBeacon := true } } := by
  simp [queueNew, h]

/-- What `placeAtFull` leaves unchanged. -/
@[simp] theorem placeAtFull_frame (f : TxFrame) (s : State) :
    ((placeAtFull f s).1).held = s.held ∧ ((placeAtFull f s).1).now = s.now ∧
      ((placeAtFull f s).1).cfg = s.cfg ∧ ((placeAtFull f s).1).jt = s.jt ∧
      ((placeAtFull f s).1).pt = s.pt ∧ ((placeAtFull f s).1).vr = s.vr ∧
      ((placeAtFull f s).1).flc = s.flc ∧ ((placeAtFull f s).1).decisionPending = s.decisionPending ∧
      ((placeAtFull f s).1).cu = s.cu ∧ ((placeAtFull f s).1).hu = s.hu ∧
      ((placeAtFull f s).1).pending = s.pending := by
  unfold placeAtFull
  repeat' split
  all_goals simp

/-- What `placeFrame` leaves unchanged. -/
@[simp] theorem placeFrame_frame (f : TxFrame) (s : State) :
    ((placeFrame f s).1).held = s.held ∧ ((placeFrame f s).1).now = s.now ∧ ((placeFrame f s).1).cfg = s.cfg ∧
      ((placeFrame f s).1).jt = s.jt ∧ ((placeFrame f s).1).pt = s.pt ∧ ((placeFrame f s).1).vr = s.vr ∧
      ((placeFrame f s).1).flc = s.flc ∧ ((placeFrame f s).1).decisionPending = s.decisionPending ∧
      ((placeFrame f s).1).cu = s.cu ∧ ((placeFrame f s).1).hu = s.hu ∧ ((placeFrame f s).1).pending = s.pending := by
  unfold placeFrame
  dsimp only
  repeat' split
  all_goals simp

/-- What `modifyOwnCall` leaves unchanged. -/
@[simp] theorem modifyOwnCall_frame (slot : Nat) (f : OwnCall → OwnCall) (s : State) :
    (modifyOwnCall slot f s).held = s.held ∧ (modifyOwnCall slot f s).now = s.now ∧
      (modifyOwnCall slot f s).cfg = s.cfg ∧ (modifyOwnCall slot f s).cpc = s.cpc ∧
      (modifyOwnCall slot f s).jt = s.jt ∧ (modifyOwnCall slot f s).pt = s.pt ∧ (modifyOwnCall slot f s).vr = s.vr ∧
      (modifyOwnCall slot f s).flc = s.flc ∧ (modifyOwnCall slot f s).decisionPending = s.decisionPending ∧
      (modifyOwnCall slot f s).hu = s.hu ∧ (modifyOwnCall slot f s).pbc = s.pbc ∧
      (modifyOwnCall slot f s).pending = s.pending := by
  simp [modifyOwnCall]

/-- What `freeSlot` leaves unchanged. -/
@[simp] theorem freeSlot_frame (slot : Nat) (s : State) :
    (freeSlot slot s).held = s.held ∧ (freeSlot slot s).now = s.now ∧ (freeSlot slot s).cfg = s.cfg ∧
      (freeSlot slot s).cpc = s.cpc ∧ (freeSlot slot s).jt = s.jt ∧ (freeSlot slot s).pt = s.pt ∧
      (freeSlot slot s).vr = s.vr ∧ (freeSlot slot s).flc = s.flc ∧ (freeSlot slot s).hu = s.hu ∧
      (freeSlot slot s).pbc = s.pbc ∧ (freeSlot slot s).pending = s.pending := by
  simp [freeSlot]

/-- What `exhaustJob` leaves unchanged. -/
@[simp] theorem exhaustJob_frame (tag : Nat) (id : CallId) (s : State) :
    (exhaustJob tag id s).held = s.held ∧ (exhaustJob tag id s).now = s.now ∧ (exhaustJob tag id s).cfg = s.cfg ∧
      (exhaustJob tag id s).pt = s.pt ∧ (exhaustJob tag id s).vr = s.vr ∧ (exhaustJob tag id s).flc = s.flc ∧
      (exhaustJob tag id s).cu = s.cu ∧ (exhaustJob tag id s).hu = s.hu ∧ (exhaustJob tag id s).pbc = s.pbc ∧
      (exhaustJob tag id s).pending = s.pending := by
  simp [exhaustJob]

/-- What `settleWindow` leaves unchanged. -/
@[simp] theorem settleWindow_frame (c : OwnCall) (s : State) :
    ((settleWindow c s).1).held = s.held ∧ ((settleWindow c s).1).now = s.now ∧
      ((settleWindow c s).1).cfg = s.cfg ∧ ((settleWindow c s).1).pt = s.pt ∧ ((settleWindow c s).1).vr = s.vr ∧
      ((settleWindow c s).1).flc = s.flc ∧ ((settleWindow c s).1).hu = s.hu ∧ ((settleWindow c s).1).pbc = s.pbc ∧
      ((settleWindow c s).1).pending = s.pending := by
  unfold settleWindow
  repeat' split
  all_goals simp

/-- What `requestFrameWithin` leaves unchanged. -/
@[simp] theorem requestFrameWithin_frame (n : Nat) (f : TxFrame) (s : State) :
    (requestFrameWithin n f s).held = s.held ∧ (requestFrameWithin n f s).now = s.now ∧
      (requestFrameWithin n f s).cfg = s.cfg ∧ (requestFrameWithin n f s).pt = s.pt ∧
      (requestFrameWithin n f s).vr = s.vr ∧ (requestFrameWithin n f s).flc = s.flc ∧
      (requestFrameWithin n f s).hu = s.hu ∧ (requestFrameWithin n f s).pending = s.pending := by
  induction n generalizing f s with
  | zero => simp [requestFrameWithin]
  | succ n ih =>
    have h := placeFrame_frame f s
    unfold requestFrameWithin
    generalize placeFrame f s = r at h
    obtain ⟨s', o⟩ := r
    cases o with
    | none => simp_all
    | some g =>
      dsimp only at h ⊢
      split
      · split
        · rename_i c _
          have h' := settleWindow_frame c s'
          generalize settleWindow c s' = r at h'
          obtain ⟨s'', b⟩ := r
          cases b <;> simp_all
        · simp_all
      · simp_all

/-- What `requestFrame` leaves unchanged. -/
@[simp] theorem requestFrame_frame (target : Byte) (p : Payload) (s : State) :
    (requestFrame target p s).held = s.held ∧ (requestFrame target p s).now = s.now ∧
      (requestFrame target p s).cfg = s.cfg ∧ (requestFrame target p s).pt = s.pt ∧
      (requestFrame target p s).vr = s.vr ∧ (requestFrame target p s).flc = s.flc ∧
      (requestFrame target p s).hu = s.hu ∧ (requestFrame target p s).pending = s.pending := by
  simp [requestFrame]

/-- What `closeAll` leaves unchanged. -/
@[simp] theorem closeAll_frame (id : CallId) (s : State) :
    (closeAll id s).held = s.held ∧ (closeAll id s).now = s.now ∧ (closeAll id s).cfg = s.cfg ∧
      (closeAll id s).pt = s.pt ∧ (closeAll id s).vr = s.vr ∧ (closeAll id s).flc = s.flc ∧
      (closeAll id s).hu = s.hu ∧ (closeAll id s).pending = s.pending := by
  simp [closeAll]

/-- What `windowWithoutTake` leaves unchanged. -/
@[simp] theorem windowWithoutTake_frame (c : OwnCall) (s : State) :
    (windowWithoutTake c s).held = s.held ∧ (windowWithoutTake c s).now = s.now ∧
      (windowWithoutTake c s).cfg = s.cfg ∧ (windowWithoutTake c s).pt = s.pt ∧ (windowWithoutTake c s).vr = s.vr ∧
      (windowWithoutTake c s).flc = s.flc ∧ (windowWithoutTake c s).hu = s.hu ∧
      (windowWithoutTake c s).pending = s.pending := by
  have h := settleWindow_frame c s
  unfold windowWithoutTake
  generalize settleWindow c s = r at h
  obtain ⟨s', b⟩ := r
  cases b <;> simp_all

/-- What `toldUnsent` leaves unchanged. -/
@[simp] theorem toldUnsent_frame (f : TxFrame) (s : State) :
    (toldUnsent f s).held = s.held ∧ (toldUnsent f s).now = s.now ∧ (toldUnsent f s).cfg = s.cfg ∧
      (toldUnsent f s).pt = s.pt ∧ (toldUnsent f s).vr = s.vr ∧ (toldUnsent f s).flc = s.flc ∧
      (toldUnsent f s).hu = s.hu ∧ (toldUnsent f s).pending = s.pending := by
  unfold toldUnsent
  repeat' split
  all_goals simp

/-- What `requestBeacon` leaves unchanged. -/
@[simp] theorem requestBeacon_frame (s : State) :
    (requestBeacon s).held = s.held ∧ (requestBeacon s).now = s.now ∧ (requestBeacon s).cfg = s.cfg ∧
      (requestBeacon s).pt = s.pt ∧ (requestBeacon s).vr = s.vr ∧ (requestBeacon s).flc = s.flc ∧
      (requestBeacon s).hu = s.hu ∧ (requestBeacon s).pending = s.pending := by
  simp [requestBeacon]

/-- What `setErr` leaves unchanged. -/
@[simp] theorem setErr_frame (l : Line) (n : Nat) (s : State) :
    (setErr l n s).held = s.held ∧ (setErr l n s).now = s.now ∧ (setErr l n s).cfg = s.cfg ∧
      (setErr l n s).cpc = s.cpc ∧ (setErr l n s).jt = s.jt ∧ (setErr l n s).pt = s.pt ∧ (setErr l n s).vr = s.vr ∧
      (setErr l n s).flc = s.flc ∧ (setErr l n s).decisionPending = s.decisionPending ∧ (setErr l n s).cu = s.cu ∧
      (setErr l n s).hu = s.hu ∧ (setErr l n s).pending = s.pending := by
  simp [setErr]

/-- What `restartSilence` leaves unchanged. -/
@[simp] theorem restartSilence_frame (s : State) :
    (restartSilence s).held = s.held ∧ (restartSilence s).now = s.now ∧ (restartSilence s).cfg = s.cfg ∧
      (restartSilence s).cpc = s.cpc ∧ (restartSilence s).jt = s.jt ∧ (restartSilence s).pt = s.pt ∧
      (restartSilence s).vr = s.vr ∧ (restartSilence s).flc = s.flc ∧
      (restartSilence s).decisionPending = s.decisionPending ∧ (restartSilence s).cu = s.cu ∧
      (restartSilence s).hu = s.hu ∧ (restartSilence s).pending = s.pending := by
  simp [restartSilence]

/-- What `switchLine` leaves unchanged. -/
@[simp] theorem switchLine_frame (cause : SwitchCause) (s : State) :
    (switchLine cause s).held = s.held ∧ (switchLine cause s).now = s.now ∧ (switchLine cause s).cfg = s.cfg ∧
      (switchLine cause s).jt = s.jt ∧ (switchLine cause s).pt = s.pt ∧ (switchLine cause s).vr = s.vr ∧
      (switchLine cause s).flc = s.flc ∧ (switchLine cause s).decisionPending = s.decisionPending ∧
      (switchLine cause s).cu = s.cu ∧ (switchLine cause s).hu = s.hu ∧ (switchLine cause s).pending = s.pending := by
  simp [switchLine]

/-- What `lineTests` leaves unchanged. -/
@[simp] theorem lineTests_frame (s : State) :
    (lineTests s).held = s.held ∧ (lineTests s).now = s.now ∧ (lineTests s).cfg = s.cfg ∧
      (lineTests s).jt = s.jt ∧ (lineTests s).pt = s.pt ∧ (lineTests s).vr = s.vr ∧ (lineTests s).flc = s.flc ∧
      (lineTests s).decisionPending = s.decisionPending ∧ (lineTests s).cu = s.cu ∧ (lineTests s).hu = s.hu ∧
      (lineTests s).pending = s.pending := by
  unfold lineTests
  dsimp only
  repeat' split
  all_goals simp

/-- What `moveErr` leaves unchanged. -/
@[simp] theorem moveErr_frame (l : Line) (n : Nat) (s : State) :
    (moveErr l n s).held = s.held ∧ (moveErr l n s).now = s.now ∧ (moveErr l n s).cfg = s.cfg ∧
      (moveErr l n s).jt = s.jt ∧ (moveErr l n s).pt = s.pt ∧ (moveErr l n s).vr = s.vr ∧
      (moveErr l n s).flc = s.flc ∧ (moveErr l n s).decisionPending = s.decisionPending ∧
      (moveErr l n s).cu = s.cu ∧ (moveErr l n s).hu = s.hu ∧ (moveErr l n s).pending = s.pending := by
  unfold moveErr
  repeat' split
  all_goals simp

/-- What `countBad` leaves unchanged. -/
@[simp] theorem countBad_frame (l : Line) (s : State) :
    (countBad l s).held = s.held ∧ (countBad l s).now = s.now ∧ (countBad l s).cfg = s.cfg ∧
      (countBad l s).jt = s.jt ∧ (countBad l s).pt = s.pt ∧ (countBad l s).vr = s.vr ∧ (countBad l s).flc = s.flc ∧
      (countBad l s).decisionPending = s.decisionPending ∧ (countBad l s).cu = s.cu ∧ (countBad l s).hu = s.hu ∧
      (countBad l s).pending = s.pending := by
  simp [countBad]

/-- What `countGood` leaves unchanged. -/
@[simp] theorem countGood_frame (l : Line) (s : State) :
    (countGood l s).held = s.held ∧ (countGood l s).now = s.now ∧ (countGood l s).cfg = s.cfg ∧
      (countGood l s).jt = s.jt ∧ (countGood l s).pt = s.pt ∧ (countGood l s).vr = s.vr ∧
      (countGood l s).flc = s.flc ∧ (countGood l s).decisionPending = s.decisionPending ∧
      (countGood l s).cu = s.cu ∧ (countGood l s).hu = s.hu ∧ (countGood l s).pending = s.pending := by
  unfold countGood
  repeat' split
  all_goals simp

end Sys2Proof.Machine
end

