-- ==== Sys2Proof/Laws/Handover.lean ====
section
/-! SUPPORT. Frames: for the operations of Machine/Handover.lean, the blocks each leaves as they were. -/

namespace Sys2Proof.Machine

/-- What `modifyAsk` leaves unchanged. -/
@[simp] theorem modifyAsk_frame (tag : Nat) (f : AskEntry → AskEntry) (s : State) :
    (modifyAsk tag f s).held = s.held ∧ (modifyAsk tag f s).now = s.now ∧ (modifyAsk tag f s).cfg = s.cfg ∧
      (modifyAsk tag f s).cpc = s.cpc ∧ (modifyAsk tag f s).jt = s.jt ∧ (modifyAsk tag f s).pt = s.pt ∧
      (modifyAsk tag f s).vr = s.vr ∧ (modifyAsk tag f s).flc = s.flc ∧
      (modifyAsk tag f s).decisionPending = s.decisionPending ∧ (modifyAsk tag f s).cu = s.cu ∧
      (modifyAsk tag f s).pbc = s.pbc ∧ (modifyAsk tag f s).pending = s.pending := by
  simp [modifyAsk]

/-- What `endAsk` leaves unchanged. -/
@[simp] theorem endAsk_frame (tag : Nat) (s : State) :
    (endAsk tag s).held = s.held ∧ (endAsk tag s).now = s.now ∧ (endAsk tag s).cfg = s.cfg ∧
      (endAsk tag s).cpc = s.cpc ∧ (endAsk tag s).jt = s.jt ∧ (endAsk tag s).pt = s.pt ∧ (endAsk tag s).vr = s.vr ∧
      (endAsk tag s).flc = s.flc ∧ (endAsk tag s).decisionPending = s.decisionPending ∧ (endAsk tag s).cu = s.cu ∧
      (endAsk tag s).pbc = s.pbc ∧ (endAsk tag s).pending = s.pending := by
  simp [endAsk]

/-- What `modifyExit` leaves unchanged. -/
@[simp] theorem modifyExit_frame (v : Nat) (f : ExitEntry → ExitEntry) (s : State) :
    (modifyExit v f s).held = s.held ∧ (modifyExit v f s).now = s.now ∧ (modifyExit v f s).cfg = s.cfg ∧
      (modifyExit v f s).cpc = s.cpc ∧ (modifyExit v f s).jt = s.jt ∧ (modifyExit v f s).pt = s.pt ∧
      (modifyExit v f s).vr = s.vr ∧ (modifyExit v f s).flc = s.flc ∧
      (modifyExit v f s).decisionPending = s.decisionPending ∧ (modifyExit v f s).cu = s.cu ∧
      (modifyExit v f s).pbc = s.pbc ∧ (modifyExit v f s).pending = s.pending := by
  simp [modifyExit]

/-- What `leaveQueue` leaves unchanged. -/
@[simp] theorem leaveQueue_frame (v : Nat) (s : State) :
    (leaveQueue v s).held = s.held ∧ (leaveQueue v s).now = s.now ∧ (leaveQueue v s).cfg = s.cfg ∧
      (leaveQueue v s).cpc = s.cpc ∧ (leaveQueue v s).jt = s.jt ∧ (leaveQueue v s).pt = s.pt ∧
      (leaveQueue v s).vr = s.vr ∧ (leaveQueue v s).flc = s.flc ∧
      (leaveQueue v s).decisionPending = s.decisionPending ∧ (leaveQueue v s).cu = s.cu ∧
      (leaveQueue v s).pbc = s.pbc ∧ (leaveQueue v s).pending = s.pending := by
  simp [leaveQueue]

/-- What `joinQueue` leaves unchanged. -/
@[simp] theorem joinQueue_frame (e : ExitEntry) (s : State) :
    (joinQueue e s).held = s.held ∧ (joinQueue e s).now = s.now ∧ (joinQueue e s).cfg = s.cfg ∧
      (joinQueue e s).cpc = s.cpc ∧ (joinQueue e s).jt = s.jt ∧ (joinQueue e s).pt = s.pt ∧
      (joinQueue e s).vr = s.vr ∧ (joinQueue e s).flc = s.flc ∧
      (joinQueue e s).decisionPending = s.decisionPending ∧ (joinQueue e s).cu = s.cu ∧
      (joinQueue e s).pbc = s.pbc ∧ (joinQueue e s).pending = s.pending := by
  simp [joinQueue]

/-- What `sendAsk` leaves unchanged. -/
@[simp] theorem sendAsk_frame (e : AskEntry) (s : State) :
    (sendAsk e s).held = s.held ∧ (sendAsk e s).now = s.now ∧ (sendAsk e s).cfg = s.cfg ∧
      (sendAsk e s).pt = s.pt ∧ (sendAsk e s).vr = s.vr ∧ (sendAsk e s).flc = s.flc ∧
      (sendAsk e s).pending = s.pending := by
  unfold sendAsk
  repeat' split
  all_goals simp

/-- What `holdAsk` leaves unchanged. -/
@[simp] theorem holdAsk_frame (tag : Nat) (s : State) :
    (holdAsk tag s).held = s.held ∧ (holdAsk tag s).now = s.now ∧ (holdAsk tag s).cfg = s.cfg ∧
      (holdAsk tag s).cpc = s.cpc ∧ (holdAsk tag s).pt = s.pt ∧ (holdAsk tag s).vr = s.vr ∧
      (holdAsk tag s).flc = s.flc ∧ (holdAsk tag s).decisionPending = s.decisionPending ∧
      (holdAsk tag s).cu = s.cu ∧ (holdAsk tag s).pbc = s.pbc ∧ (holdAsk tag s).pending = s.pending := by
  simp [holdAsk]

/-- What `askOrHold` leaves unchanged. -/
@[simp] theorem askOrHold_frame (e : AskEntry) (s : State) :
    (askOrHold e s).held = s.held ∧ (askOrHold e s).now = s.now ∧ (askOrHold e s).cfg = s.cfg ∧
      (askOrHold e s).pt = s.pt ∧ (askOrHold e s).vr = s.vr ∧ (askOrHold e s).flc = s.flc ∧
      (askOrHold e s).pending = s.pending := by
  unfold askOrHold
  repeat' split
  all_goals simp

/-- What `createAsk` leaves unchanged. -/
@[simp] theorem createAsk_frame (tag v st port : Nat) (s : State) :
    (createAsk tag v st port s).held = s.held ∧ (createAsk tag v st port s).now = s.now ∧
      (createAsk tag v st port s).cfg = s.cfg ∧ (createAsk tag v st port s).pt = s.pt ∧
      (createAsk tag v st port s).vr = s.vr ∧ (createAsk tag v st port s).flc = s.flc ∧
      (createAsk tag v st port s).pending = s.pending := by
  simp [createAsk]

/-- What `retestEntry` leaves unchanged. -/
@[simp] theorem retestEntry_frame (tag : Nat) (s : State) :
    (retestEntry s tag).held = s.held ∧ (retestEntry s tag).now = s.now ∧ (retestEntry s tag).cfg = s.cfg ∧
      (retestEntry s tag).pt = s.pt ∧ (retestEntry s tag).vr = s.vr ∧ (retestEntry s tag).flc = s.flc ∧
      (retestEntry s tag).pending = s.pending := by
  unfold retestEntry
  repeat' split
  all_goals simp

/-- What `retestHeld` leaves unchanged. -/
@[simp] theorem retestHeld_frame (st : Nat) (s : State) :
    (retestHeld st s).held = s.held ∧ (retestHeld st s).now = s.now ∧ (retestHeld st s).cfg = s.cfg ∧
      (retestHeld st s).pt = s.pt ∧ (retestHeld st s).vr = s.vr ∧ (retestHeld st s).flc = s.flc ∧
      (retestHeld st s).pending = s.pending := by
  unfold retestHeld
  exact ⟨foldl_keeps State.held _ (by simp) _ _,
    foldl_keeps State.now _ (by simp) _ _,
    foldl_keeps State.cfg _ (by simp) _ _,
    foldl_keeps State.pt _ (by simp) _ _,
    foldl_keeps State.vr _ (by simp) _ _,
    foldl_keeps State.flc _ (by simp) _ _,
    foldl_keeps State.pending _ (by simp) _ _⟩

/-- What `retestAllHeld` leaves unchanged. -/
@[simp] theorem retestAllHeld_frame (s : State) :
    (retestAllHeld s).held = s.held ∧ (retestAllHeld s).now = s.now ∧ (retestAllHeld s).cfg = s.cfg ∧
      (retestAllHeld s).pt = s.pt ∧ (retestAllHeld s).vr = s.vr ∧ (retestAllHeld s).flc = s.flc ∧
      (retestAllHeld s).pending = s.pending := by
  unfold retestAllHeld
  exact ⟨foldl_keeps State.held _ (by simp) _ _,
    foldl_keeps State.now _ (by simp) _ _,
    foldl_keeps State.cfg _ (by simp) _ _,
    foldl_keeps State.pt _ (by simp) _ _,
    foldl_keeps State.vr _ (by simp) _ _,
    foldl_keeps State.flc _ (by simp) _ _,
    foldl_keeps State.pending _ (by simp) _ _⟩

/-- What `leaveHead` leaves unchanged. -/
@[simp] theorem leaveHead_frame (s : State) :
    (leaveHead s).held = s.held ∧ (leaveHead s).now = s.now ∧ (leaveHead s).cfg = s.cfg ∧
      (leaveHead s).cpc = s.cpc ∧ (leaveHead s).jt = s.jt ∧ (leaveHead s).pt = s.pt ∧ (leaveHead s).vr = s.vr ∧
      (leaveHead s).decisionPending = s.decisionPending ∧ (leaveHead s).cu = s.cu ∧ (leaveHead s).pbc = s.pbc ∧
      (leaveHead s).pending = s.pending := by
  unfold leaveHead
  repeat' split
  all_goals simp

/-- What `grantAsk` leaves unchanged. -/
@[simp] theorem grantAsk_frame (e : AskEntry) (s : State) :
    (grantAsk e s).held = s.held ∧ (grantAsk e s).now = s.now ∧ (grantAsk e s).cfg = s.cfg ∧
      (grantAsk e s).cpc = s.cpc ∧ (grantAsk e s).pt = s.pt ∧ (grantAsk e s).vr = s.vr ∧
      (grantAsk e s).flc = s.flc ∧ (grantAsk e s).decisionPending = s.decisionPending ∧ (grantAsk e s).cu = s.cu ∧
      (grantAsk e s).pbc = s.pbc ∧ (grantAsk e s).pending = s.pending := by
  simp [grantAsk]

end Sys2Proof.Machine
end

