-- ==== Sys2Proof/Laws/Roster.lean ====
section
/-! SUPPORT. Frames: for the operations of Machine/Roster.lean, the blocks each leaves as they were. -/

namespace Sys2Proof.Machine

/-- What `sendToPickup` leaves unchanged. -/
@[simp] theorem sendToPickup_frame (v tag : Nat) (s : State) :
    (sendToPickup v tag s).held = s.held ∧ (sendToPickup v tag s).now = s.now ∧
      (sendToPickup v tag s).cfg = s.cfg ∧ (sendToPickup v tag s).cpc = s.cpc ∧ (sendToPickup v tag s).jt = s.jt ∧
      (sendToPickup v tag s).pt = s.pt ∧ (sendToPickup v tag s).decisionPending = s.decisionPending ∧
      (sendToPickup v tag s).cu = s.cu ∧ (sendToPickup v tag s).hu = s.hu ∧ (sendToPickup v tag s).pbc = s.pbc ∧
      (sendToPickup v tag s).pending = s.pending := by
  simp [sendToPickup]

/-- What `releaseVehicle` leaves unchanged. -/
@[simp] theorem releaseVehicle_frame (v : Nat) (s : State) :
    (releaseVehicle v s).held = s.held ∧ (releaseVehicle v s).now = s.now ∧ (releaseVehicle v s).cfg = s.cfg ∧
      (releaseVehicle v s).cpc = s.cpc ∧ (releaseVehicle v s).pt = s.pt ∧ (releaseVehicle v s).cu = s.cu ∧
      (releaseVehicle v s).hu = s.hu ∧ (releaseVehicle v s).pbc = s.pbc ∧ (releaseVehicle v s).pending = s.pending := by
  unfold releaseVehicle
  repeat' split
  all_goals simp

/-- What `wakeIfChain` leaves unchanged. -/
@[simp] theorem wakeIfChain_frame (v : Nat) (s : State) :
    (wakeIfChain v s).held = s.held ∧ (wakeIfChain v s).now = s.now ∧ (wakeIfChain v s).cfg = s.cfg ∧
      (wakeIfChain v s).cpc = s.cpc ∧ (wakeIfChain v s).jt = s.jt ∧ (wakeIfChain v s).pt = s.pt ∧
      (wakeIfChain v s).vr = s.vr ∧ (wakeIfChain v s).flc = s.flc ∧ (wakeIfChain v s).cu = s.cu ∧
      (wakeIfChain v s).hu = s.hu ∧ (wakeIfChain v s).pbc = s.pbc ∧ (wakeIfChain v s).pending = s.pending := by
  unfold wakeIfChain
  repeat' split
  all_goals simp

/-- What `failJob` leaves unchanged. -/
@[simp] theorem failJob_frame (tag v : Nat) (reason : FailReason) (s : State) :
    (failJob tag v reason s).held = s.held ∧ (failJob tag v reason s).now = s.now ∧
      (failJob tag v reason s).cfg = s.cfg ∧ (failJob tag v reason s).flc = s.flc ∧
      (failJob tag v reason s).pbc = s.pbc ∧ (failJob tag v reason s).pending = s.pending := by
  unfold failJob
  repeat' split
  all_goals simp

/-- What `unbindToWaiting` leaves unchanged. -/
@[simp] theorem unbindToWaiting_frame (tag v : Nat) (reason : Option HoldReason) (s : State) :
    (unbindToWaiting tag v reason s).held = s.held ∧ (unbindToWaiting tag v reason s).now = s.now ∧
      (unbindToWaiting tag v reason s).cfg = s.cfg ∧ (unbindToWaiting tag v reason s).cpc = s.cpc ∧
      (unbindToWaiting tag v reason s).flc = s.flc ∧ (unbindToWaiting tag v reason s).cu = s.cu ∧
      (unbindToWaiting tag v reason s).hu = s.hu ∧ (unbindToWaiting tag v reason s).pbc = s.pbc ∧
      (unbindToWaiting tag v reason s).pending = s.pending := by
  simp [unbindToWaiting]

/-- What `settleCurrent` leaves unchanged. -/
@[simp] theorem settleCurrent_frame (tag v : Nat) (laden : Bool) (s : State) :
    (settleCurrent tag v laden s).held = s.held ∧ (settleCurrent tag v laden s).now = s.now ∧
      (settleCurrent tag v laden s).cfg = s.cfg ∧ (settleCurrent tag v laden s).flc = s.flc ∧
      (settleCurrent tag v laden s).pbc = s.pbc ∧ (settleCurrent tag v laden s).pending = s.pending := by
  unfold settleCurrent
  repeat' split
  all_goals simp

/-- What `settleJobs` leaves unchanged. -/
@[simp] theorem settleJobs_frame (r : Vehicle) (s : State) :
    (settleJobs r s).held = s.held ∧ (settleJobs r s).now = s.now ∧ (settleJobs r s).cfg = s.cfg ∧
      (settleJobs r s).flc = s.flc ∧ (settleJobs r s).pbc = s.pbc ∧ (settleJobs r s).pending = s.pending := by
  unfold settleJobs
  repeat' split
  all_goals simp

/-- What `dropPledgeEntry` leaves unchanged. -/
@[simp] theorem dropPledgeEntry_frame (v : Nat) (s : State) :
    (dropPledgeEntry v s).held = s.held ∧ (dropPledgeEntry v s).now = s.now ∧ (dropPledgeEntry v s).cfg = s.cfg ∧
      (dropPledgeEntry v s).cpc = s.cpc ∧ (dropPledgeEntry v s).jt = s.jt ∧ (dropPledgeEntry v s).pt = s.pt ∧
      (dropPledgeEntry v s).vr = s.vr ∧ (dropPledgeEntry v s).flc = s.flc ∧
      (dropPledgeEntry v s).decisionPending = s.decisionPending ∧ (dropPledgeEntry v s).hu = s.hu ∧
      (dropPledgeEntry v s).pbc = s.pbc ∧ (dropPledgeEntry v s).pending = s.pending := by
  simp [dropPledgeEntry]

/-- What `takeOutOfService` leaves unchanged. -/
@[simp] theorem takeOutOfService_frame (r : Vehicle) (s : State) :
    (takeOutOfService r s).held = s.held ∧ (takeOutOfService r s).now = s.now ∧
      (takeOutOfService r s).cfg = s.cfg ∧ (takeOutOfService r s).pbc = s.pbc ∧
      (takeOutOfService r s).pending = s.pending := by
  simp [takeOutOfService]

/-- What `faultWith` leaves unchanged. -/
@[simp] theorem faultWith_frame (v : Nat) (reason : FaultReason) (notice : NoticeBody) (s : State) :
    (faultWith v reason notice s).held = s.held ∧ (faultWith v reason notice s).now = s.now ∧
      (faultWith v reason notice s).cfg = s.cfg ∧ (faultWith v reason notice s).pbc = s.pbc ∧
      (faultWith v reason notice s).pending = s.pending := by
  unfold faultWith
  repeat' split
  all_goals simp

/-- What `fault` leaves unchanged. -/
@[simp] theorem fault_frame (v : Nat) (reason : FaultReason) (s : State) :
    (fault v reason s).held = s.held ∧ (fault v reason s).now = s.now ∧ (fault v reason s).cfg = s.cfg ∧
      (fault v reason s).pbc = s.pbc ∧ (fault v reason s).pending = s.pending := by
  simp [fault]

/-- What `faultOwner` leaves unchanged. -/
@[simp] theorem faultOwner_frame (v : Nat) (owner : Option Nat) (s : State) :
    (faultOwner v owner s).held = s.held ∧ (faultOwner v owner s).now = s.now ∧
      (faultOwner v owner s).cfg = s.cfg ∧ (faultOwner v owner s).pbc = s.pbc ∧
      (faultOwner v owner s).pending = s.pending := by
  simp [faultOwner]

/-- What `loseVehicle` leaves unchanged. -/
@[simp] theorem loseVehicle_frame (v : Nat) (s : State) :
    (loseVehicle v s).held = s.held ∧ (loseVehicle v s).now = s.now ∧ (loseVehicle v s).cfg = s.cfg ∧
      (loseVehicle v s).pbc = s.pbc ∧ (loseVehicle v s).pending = s.pending := by
  unfold loseVehicle
  repeat' split
  all_goals simp

/-- What `settleRemoved` leaves unchanged. -/
@[simp] theorem settleRemoved_frame (ref : InboundRef) (tag : Nat) (s : State) :
    (settleRemoved ref tag s).held = s.held ∧ (settleRemoved ref tag s).now = s.now ∧
      (settleRemoved ref tag s).cfg = s.cfg ∧ (settleRemoved ref tag s).flc = s.flc ∧
      (settleRemoved ref tag s).hu = s.hu ∧ (settleRemoved ref tag s).pbc = s.pbc ∧
      (settleRemoved ref tag s).pending = s.pending := by
  unfold settleRemoved
  repeat' split
  all_goals simp

/-- What `sendToFallback` leaves unchanged. -/
@[simp] theorem sendToFallback_frame (v : Nat) (s : State) :
    (sendToFallback v s).held = s.held ∧ (sendToFallback v s).now = s.now ∧ (sendToFallback v s).cfg = s.cfg ∧
      (sendToFallback v s).cpc = s.cpc ∧ (sendToFallback v s).jt = s.jt ∧ (sendToFallback v s).pt = s.pt ∧
      (sendToFallback v s).decisionPending = s.decisionPending ∧ (sendToFallback v s).cu = s.cu ∧
      (sendToFallback v s).pbc = s.pbc ∧ (sendToFallback v s).pending = s.pending := by
  simp [sendToFallback]

/-- What `redirect` leaves unchanged. -/
@[simp] theorem redirect_frame (tag : Nat) (reason : RedirectReason) (s : State) :
    (redirect tag reason s).held = s.held ∧ (redirect tag reason s).now = s.now ∧
      (redirect tag reason s).cfg = s.cfg ∧ (redirect tag reason s).cu = s.cu ∧
      (redirect tag reason s).pbc = s.pbc ∧ (redirect tag reason s).pending = s.pending := by
  unfold redirect
  repeat' split
  all_goals simp

/-- What `sendLoad` leaves unchanged. -/
@[simp] theorem sendLoad_frame (tag v : Nat) (s : State) :
    (sendLoad tag v s).held = s.held ∧ (sendLoad tag v s).now = s.now ∧ (sendLoad tag v s).cfg = s.cfg ∧
      (sendLoad tag v s).cpc = s.cpc ∧ (sendLoad tag v s).pt = s.pt ∧
      (sendLoad tag v s).decisionPending = s.decisionPending ∧ (sendLoad tag v s).cu = s.cu ∧
      (sendLoad tag v s).hu = s.hu ∧ (sendLoad tag v s).pbc = s.pbc ∧ (sendLoad tag v s).pending = s.pending := by
  simp [sendLoad]

/-- What `arriveAtSource` leaves unchanged. -/
@[simp] theorem arriveAtSource_frame (v : Nat) (r : Vehicle) (s : State) :
    (arriveAtSource v r s).held = s.held ∧ (arriveAtSource v r s).now = s.now ∧
      (arriveAtSource v r s).cfg = s.cfg ∧ (arriveAtSource v r s).cpc = s.cpc ∧ (arriveAtSource v r s).cu = s.cu ∧
      (arriveAtSource v r s).hu = s.hu ∧ (arriveAtSource v r s).pbc = s.pbc ∧
      (arriveAtSource v r s).pending = s.pending := by
  unfold arriveAtSource
  repeat' split
  all_goals simp

/-- What `arriveLaden` leaves unchanged. -/
@[simp] theorem arriveLaden_frame (v : Nat) (r : Vehicle) (s : State) :
    (arriveLaden v r s).held = s.held ∧ (arriveLaden v r s).now = s.now ∧ (arriveLaden v r s).cfg = s.cfg ∧
      (arriveLaden v r s).cpc = s.cpc ∧ (arriveLaden v r s).pt = s.pt ∧
      (arriveLaden v r s).decisionPending = s.decisionPending ∧ (arriveLaden v r s).cu = s.cu ∧
      (arriveLaden v r s).pbc = s.pbc ∧ (arriveLaden v r s).pending = s.pending := by
  unfold arriveLaden
  repeat' split
  all_goals simp

/-- What `arriveDeparting` leaves unchanged. -/
@[simp] theorem arriveDeparting_frame (v : Nat) (s : State) :
    (arriveDeparting v s).held = s.held ∧ (arriveDeparting v s).now = s.now ∧ (arriveDeparting v s).cfg = s.cfg ∧
      (arriveDeparting v s).cpc = s.cpc ∧ (arriveDeparting v s).jt = s.jt ∧ (arriveDeparting v s).pt = s.pt ∧
      (arriveDeparting v s).flc = s.flc ∧ (arriveDeparting v s).decisionPending = s.decisionPending ∧
      (arriveDeparting v s).cu = s.cu ∧ (arriveDeparting v s).pbc = s.pbc ∧
      (arriveDeparting v s).pending = s.pending := by
  simp [arriveDeparting]

/-- What `arrive` leaves unchanged. -/
@[simp] theorem arrive_frame (v : Nat) (r : Vehicle) (s : State) :
    (arrive v r s).held = s.held ∧ (arrive v r s).now = s.now ∧ (arrive v r s).cfg = s.cfg ∧
      (arrive v r s).cpc = s.cpc ∧ (arrive v r s).cu = s.cu ∧ (arrive v r s).pbc = s.pbc ∧
      (arrive v r s).pending = s.pending := by
  unfold arrive
  repeat' split
  all_goals simp

/-- What `requestInRun` leaves unchanged. -/
@[simp] theorem requestInRun_frame (target : Byte) (p : Payload) (s : State) :
    (requestInRun target p s).held = s.held ∧ (requestInRun target p s).now = s.now ∧
      (requestInRun target p s).cfg = s.cfg ∧ (requestInRun target p s).pt = s.pt ∧
      (requestInRun target p s).vr = s.vr ∧ (requestInRun target p s).flc = s.flc ∧
      (requestInRun target p s).hu = s.hu ∧ (requestInRun target p s).pending = s.pending := by
  unfold requestInRun
  repeat' split
  all_goals simp

/-- What `exitLaden` leaves unchanged. -/
@[simp] theorem exitLaden_frame (v tag : Nat) (s : State) :
    (exitLaden v tag s).held = s.held ∧ (exitLaden v tag s).now = s.now ∧ (exitLaden v tag s).cfg = s.cfg ∧
      (exitLaden v tag s).flc = s.flc ∧ (exitLaden v tag s).pending = s.pending := by
  unfold exitLaden
  repeat' split
  all_goals simp

/-- What `exitVehicle` leaves unchanged. -/
@[simp] theorem exitVehicle_frame (v : Nat) (s : State) :
    (exitVehicle v s).held = s.held ∧ (exitVehicle v s).now = s.now ∧ (exitVehicle v s).cfg = s.cfg ∧
      (exitVehicle v s).pending = s.pending := by
  unfold exitVehicle
  repeat' split
  all_goals simp

/-- What `releasePledge` leaves unchanged. -/
@[simp] theorem releasePledge_frame (v : Nat) (s : State) :
    (releasePledge v s).held = s.held ∧ (releasePledge v s).now = s.now ∧ (releasePledge v s).cfg = s.cfg ∧
      (releasePledge v s).cpc = s.cpc ∧ (releasePledge v s).jt = s.jt ∧ (releasePledge v s).pt = s.pt ∧
      (releasePledge v s).flc = s.flc ∧ (releasePledge v s).cu = s.cu ∧ (releasePledge v s).hu = s.hu ∧
      (releasePledge v s).pbc = s.pbc ∧ (releasePledge v s).pending = s.pending := by
  unfold releasePledge
  repeat' split
  all_goals simp

/-- What `endIncoming` leaves unchanged. -/
@[simp] theorem endIncoming_frame (id : CallId) (s : State) :
    (endIncoming id s).held = s.held ∧ (endIncoming id s).now = s.now ∧ (endIncoming id s).cfg = s.cfg ∧
      (endIncoming id s).cpc = s.cpc ∧ (endIncoming id s).jt = s.jt ∧ (endIncoming id s).pt = s.pt ∧
      (endIncoming id s).flc = s.flc ∧ (endIncoming id s).hu = s.hu ∧ (endIncoming id s).pbc = s.pbc ∧
      (endIncoming id s).pending = s.pending := by
  unfold endIncoming
  repeat' split
  all_goals simp

/-- What `driveToExit` leaves unchanged. -/
@[simp] theorem driveToExit_frame (v : Nat) (s : State) :
    (driveToExit v s).held = s.held ∧ (driveToExit v s).now = s.now ∧ (driveToExit v s).cfg = s.cfg ∧
      (driveToExit v s).cpc = s.cpc ∧ (driveToExit v s).jt = s.jt ∧ (driveToExit v s).pt = s.pt ∧
      (driveToExit v s).decisionPending = s.decisionPending ∧ (driveToExit v s).cu = s.cu ∧
      (driveToExit v s).hu = s.hu ∧ (driveToExit v s).pbc = s.pbc ∧ (driveToExit v s).pending = s.pending := by
  unfold driveToExit
  repeat' split
  all_goals simp

/-- What `depart` leaves unchanged. -/
@[simp] theorem depart_frame (v caller : Nat) (id : CallId) (s : State) :
    (depart v caller id s).held = s.held ∧ (depart v caller id s).now = s.now ∧
      (depart v caller id s).cfg = s.cfg ∧ (depart v caller id s).cpc = s.cpc ∧ (depart v caller id s).jt = s.jt ∧
      (depart v caller id s).pt = s.pt ∧ (depart v caller id s).decisionPending = s.decisionPending ∧
      (depart v caller id s).hu = s.hu ∧ (depart v caller id s).pbc = s.pbc ∧
      (depart v caller id s).pending = s.pending := by
  unfold depart
  dsimp only
  repeat' split
  all_goals simp

end Sys2Proof.Machine
end

