-- ==== Sys2Proof/Laws/Calls.lean ====
section
/-! SUPPORT. Frames: for the operations of Machine/Calls.lean, the blocks each leaves as they were. -/

namespace Sys2Proof.Machine

/-- What `requestCall` leaves unchanged. -/
@[simp] theorem requestCall_frame (c : OwnCall) (s : State) :
    (requestCall c s).held = s.held ∧ (requestCall c s).now = s.now ∧ (requestCall c s).cfg = s.cfg ∧
      (requestCall c s).pt = s.pt ∧ (requestCall c s).vr = s.vr ∧ (requestCall c s).flc = s.flc ∧
      (requestCall c s).hu = s.hu ∧ (requestCall c s).pending = s.pending := by
  simp [requestCall]

/-- What `openCall` leaves unchanged. -/
@[simp] theorem openCall_frame (j : Job) (s : State) :
    (openCall j s).held = s.held ∧ (openCall j s).now = s.now ∧ (openCall j s).cfg = s.cfg ∧
      (openCall j s).pt = s.pt ∧ (openCall j s).vr = s.vr ∧ (openCall j s).flc = s.flc ∧ (openCall j s).hu = s.hu ∧
      (openCall j s).pending = s.pending := by
  simp [openCall]

/-- What `handOff` leaves unchanged. -/
@[simp] theorem handOff_frame (j : Job) (s : State) :
    (handOff j s).held = s.held ∧ (handOff j s).now = s.now ∧ (handOff j s).cfg = s.cfg ∧
      (handOff j s).pt = s.pt ∧ (handOff j s).vr = s.vr ∧ (handOff j s).flc = s.flc ∧ (handOff j s).hu = s.hu ∧
      (handOff j s).pending = s.pending := by
  unfold handOff
  repeat' split
  all_goals simp

/-- What `expectVehicle` leaves unchanged. -/
@[simp] theorem expectVehicle_frame (v : Nat) (laden : Option Nat) (tag st : Nat) (ref : InboundRef) (s : State) :
    (expectVehicle v laden tag st ref s).held = s.held ∧ (expectVehicle v laden tag st ref s).now = s.now ∧
      (expectVehicle v laden tag st ref s).cfg = s.cfg ∧ (expectVehicle v laden tag st ref s).cpc = s.cpc ∧
      (expectVehicle v laden tag st ref s).jt = s.jt ∧ (expectVehicle v laden tag st ref s).pt = s.pt ∧
      (expectVehicle v laden tag st ref s).flc = s.flc ∧
      (expectVehicle v laden tag st ref s).decisionPending = s.decisionPending ∧
      (expectVehicle v laden tag st ref s).cu = s.cu ∧ (expectVehicle v laden tag st ref s).hu = s.hu ∧
      (expectVehicle v laden tag st ref s).pbc = s.pbc ∧ (expectVehicle v laden tag st ref s).pending = s.pending := by
  simp [expectVehicle]

/-- What `reserveForTake` leaves unchanged. -/
@[simp] theorem reserveForTake_frame (tag : Nat) (s : State) :
    (((reserveForTake tag s).getD s)).held = s.held ∧ (((reserveForTake tag s).getD s)).now = s.now ∧
      (((reserveForTake tag s).getD s)).cfg = s.cfg ∧ (((reserveForTake tag s).getD s)).cpc = s.cpc ∧
      (((reserveForTake tag s).getD s)).vr = s.vr ∧ (((reserveForTake tag s).getD s)).flc = s.flc ∧
      (((reserveForTake tag s).getD s)).cu = s.cu ∧ (((reserveForTake tag s).getD s)).hu = s.hu ∧
      (((reserveForTake tag s).getD s)).pbc = s.pbc ∧ (((reserveForTake tag s).getD s)).pending = s.pending := by
  unfold reserveForTake
  repeat' split
  all_goals simp

/-- What `takeStep` leaves unchanged. -/
@[simp] theorem takeStep_frame (c : OwnCall) (o : BestOffer) (s : State) :
    (((takeStep c o s).getD s)).held = s.held ∧ (((takeStep c o s).getD s)).now = s.now ∧
      (((takeStep c o s).getD s)).cfg = s.cfg ∧ (((takeStep c o s).getD s)).flc = s.flc ∧
      (((takeStep c o s).getD s)).hu = s.hu ∧ (((takeStep c o s).getD s)).pending = s.pending := by
  unfold takeStep
  split
  · have h := reserveForTake_frame c.tag (expectVehicle o.vehicle none c.tag o.station (.lent c.id) s)
    split
    · simp
    · rename_i s' hs
      simp_all
  · simp

/-- What `closeCall` leaves unchanged. -/
@[simp] theorem closeCall_frame (c : OwnCall) (s : State) :
    (closeCall c s).held = s.held ∧ (closeCall c s).now = s.now ∧ (closeCall c s).cfg = s.cfg ∧
      (closeCall c s).pt = s.pt ∧ (closeCall c s).vr = s.vr ∧ (closeCall c s).flc = s.flc ∧
      (closeCall c s).hu = s.hu ∧ (closeCall c s).pending = s.pending := by
  simp [closeCall]

/-- What `endTaken` leaves unchanged. -/
@[simp] theorem endTaken_frame (id : CallId) (v : Nat) (s : State) :
    (endTaken id v s).held = s.held ∧ (endTaken id v s).now = s.now ∧ (endTaken id v s).cfg = s.cfg ∧
      (endTaken id v s).cpc = s.cpc ∧ (endTaken id v s).jt = s.jt ∧ (endTaken id v s).pt = s.pt ∧
      (endTaken id v s).vr = s.vr ∧ (endTaken id v s).flc = s.flc ∧ (endTaken id v s).hu = s.hu ∧
      (endTaken id v s).pbc = s.pbc ∧ (endTaken id v s).pending = s.pending := by
  unfold endTaken
  repeat' split
  all_goals simp

/-- What `reopenCall` leaves unchanged. -/
@[simp] theorem reopenCall_frame (t : TakenCall) (s : State) :
    (reopenCall t s).held = s.held ∧ (reopenCall t s).now = s.now ∧ (reopenCall t s).cfg = s.cfg ∧
      (reopenCall t s).pt = s.pt ∧ (reopenCall t s).vr = s.vr ∧ (reopenCall t s).flc = s.flc ∧
      (reopenCall t s).hu = s.hu ∧ (reopenCall t s).pending = s.pending := by
  unfold reopenCall
  repeat' split
  all_goals simp

/-- What `retryCall` leaves unchanged. -/
@[simp] theorem retryCall_frame (c : OwnCall) (s : State) :
    (retryCall c s).held = s.held ∧ (retryCall c s).now = s.now ∧ (retryCall c s).cfg = s.cfg ∧
      (retryCall c s).pt = s.pt ∧ (retryCall c s).vr = s.vr ∧ (retryCall c s).flc = s.flc ∧
      (retryCall c s).hu = s.hu ∧ (retryCall c s).pending = s.pending := by
  simp [retryCall]

/-- What `modifyIncoming` leaves unchanged. -/
@[simp] theorem modifyIncoming_frame (id : CallId) (f : Incoming → Incoming) (s : State) :
    (modifyIncoming id f s).held = s.held ∧ (modifyIncoming id f s).now = s.now ∧
      (modifyIncoming id f s).cfg = s.cfg ∧ (modifyIncoming id f s).cpc = s.cpc ∧
      (modifyIncoming id f s).jt = s.jt ∧ (modifyIncoming id f s).pt = s.pt ∧ (modifyIncoming id f s).vr = s.vr ∧
      (modifyIncoming id f s).flc = s.flc ∧ (modifyIncoming id f s).decisionPending = s.decisionPending ∧
      (modifyIncoming id f s).hu = s.hu ∧ (modifyIncoming id f s).pbc = s.pbc ∧
      (modifyIncoming id f s).pending = s.pending := by
  simp [modifyIncoming]

/-- What `sendOffer` leaves unchanged. -/
@[simp] theorem sendOffer_frame (e : Incoming) (v : Nat) (s : State) :
    (sendOffer e v s).held = s.held ∧ (sendOffer e v s).now = s.now ∧ (sendOffer e v s).cfg = s.cfg ∧
      (sendOffer e v s).pt = s.pt ∧ (sendOffer e v s).vr = s.vr ∧ (sendOffer e v s).flc = s.flc ∧
      (sendOffer e v s).hu = s.hu ∧ (sendOffer e v s).pending = s.pending := by
  simp [sendOffer]

/-- What `rotate` leaves unchanged. -/
@[simp] theorem rotate_frame (caller : Nat) (s : State) :
    (rotate caller s).held = s.held ∧ (rotate caller s).now = s.now ∧ (rotate caller s).cfg = s.cfg ∧
      (rotate caller s).cpc = s.cpc ∧ (rotate caller s).jt = s.jt ∧ (rotate caller s).pt = s.pt ∧
      (rotate caller s).vr = s.vr ∧ (rotate caller s).flc = s.flc ∧
      (rotate caller s).decisionPending = s.decisionPending ∧ (rotate caller s).hu = s.hu ∧
      (rotate caller s).pbc = s.pbc ∧ (rotate caller s).pending = s.pending := by
  unfold rotate
  repeat' split
  all_goals simp

/-- What `pledgeTo` leaves unchanged. -/
@[simp] theorem pledgeTo_frame (e : Incoming) (v : Nat) (s : State) :
    (pledgeTo e v s).held = s.held ∧ (pledgeTo e v s).now = s.now ∧ (pledgeTo e v s).cfg = s.cfg ∧
      (pledgeTo e v s).pt = s.pt ∧ (pledgeTo e v s).flc = s.flc ∧ (pledgeTo e v s).hu = s.hu ∧
      (pledgeTo e v s).pending = s.pending := by
  simp [pledgeTo]

/-- What `serveRound` leaves unchanged. -/
@[simp] theorem serveRound_frame (l : List Incoming) (s : State) :
    (serveRound l s).held = s.held ∧ (serveRound l s).now = s.now ∧ (serveRound l s).cfg = s.cfg ∧
      (serveRound l s).pt = s.pt ∧ (serveRound l s).flc = s.flc ∧ (serveRound l s).hu = s.hu ∧
      (serveRound l s).pending = s.pending := by
  induction l generalizing s with
  | nil => simp [serveRound]
  | cons e es ih =>
    unfold serveRound
    repeat' split
    all_goals simp [ih]

/-- What `roundTest` leaves unchanged. -/
@[simp] theorem roundTest_frame (s : State) :
    (roundTest s).held = s.held ∧ (roundTest s).now = s.now ∧ (roundTest s).cfg = s.cfg ∧
      (roundTest s).cpc = s.cpc ∧ (roundTest s).jt = s.jt ∧ (roundTest s).pt = s.pt ∧ (roundTest s).vr = s.vr ∧
      (roundTest s).flc = s.flc ∧ (roundTest s).decisionPending = s.decisionPending ∧ (roundTest s).hu = s.hu ∧
      (roundTest s).pbc = s.pbc ∧ (roundTest s).pending = s.pending := by
  unfold roundTest
  repeat' split
  all_goals simp

/-- What `queueCall` leaves unchanged. -/
@[simp] theorem queueCall_frame (e : Incoming) (s : State) :
    (queueCall e s).held = s.held ∧ (queueCall e s).now = s.now ∧ (queueCall e s).cfg = s.cfg ∧
      (queueCall e s).cpc = s.cpc ∧ (queueCall e s).jt = s.jt ∧ (queueCall e s).pt = s.pt ∧
      (queueCall e s).flc = s.flc ∧ (queueCall e s).hu = s.hu ∧ (queueCall e s).pbc = s.pbc ∧
      (queueCall e s).pending = s.pending := by
  unfold queueCall
  repeat' split
  all_goals simp

/-- What `finish` leaves unchanged. -/
@[simp] theorem finish_frame (s : State) :
    (finish s).held = s.held ∧ (finish s).now = s.now ∧ (finish s).cfg = s.cfg ∧ (finish s).jt = s.jt ∧
      (finish s).pt = s.pt ∧ (finish s).vr = s.vr ∧ (finish s).decisionPending = s.decisionPending ∧
      (finish s).pbc = s.pbc ∧ (finish s).pending = s.pending := by
  simp [finish]

end Sys2Proof.Machine
end

