-- ==== Sys2Proof/Laws/Moves.lean ====
section
/-! SUPPORT. Frames: for the operations of Machine/Moves.lean, the blocks each leaves as they were. -/

namespace Sys2Proof.Machine

/-- What `carryOn` leaves unchanged. -/
@[simp] theorem carryOn_frame (j : Job) (v : Nat) (s : State) :
    (carryOn j v s).held = s.held ∧ (carryOn j v s).now = s.now ∧ (carryOn j v s).cfg = s.cfg ∧
      (carryOn j v s).pt = s.pt ∧ (carryOn j v s).pending = s.pending := by
  unfold carryOn
  repeat' split
  all_goals simp

/-- What `loadOk` leaves unchanged. -/
@[simp] theorem loadOk_frame (v : Nat) (j : Job) (carrier : Nat) (s : State) :
    (loadOk v j carrier s).held = s.held ∧ (loadOk v j carrier s).now = s.now ∧
      (loadOk v j carrier s).cfg = s.cfg ∧ (loadOk v j carrier s).pending = s.pending := by
  unfold loadOk
  repeat' split
  all_goals simp

/-- What `loadEmpty` leaves unchanged. -/
@[simp] theorem loadEmpty_frame (v : Nat) (j : Job) (s : State) :
    (loadEmpty v j s).held = s.held ∧ (loadEmpty v j s).now = s.now ∧ (loadEmpty v j s).cfg = s.cfg ∧
      (loadEmpty v j s).cu = s.cu ∧ (loadEmpty v j s).hu = s.hu ∧ (loadEmpty v j s).pbc = s.pbc ∧
      (loadEmpty v j s).pending = s.pending := by
  unfold loadEmpty
  repeat' split
  all_goals simp

/-- What `continueJob` leaves unchanged. -/
@[simp] theorem continueJob_frame (v : Nat) (j : Job) (s : State) :
    (continueJob v j s).held = s.held ∧ (continueJob v j s).now = s.now ∧ (continueJob v j s).cfg = s.cfg ∧
      (continueJob v j s).cpc = s.cpc ∧ (continueJob v j s).cu = s.cu ∧ (continueJob v j s).hu = s.hu ∧
      (continueJob v j s).pbc = s.pbc ∧ (continueJob v j s).pending = s.pending := by
  unfold continueJob
  split
  · rename_i p _
    have h := reserve_frame j.tag p s
    split <;> simp_all
  · simp

/-- What `afterMove` leaves unchanged. -/
@[simp] theorem afterMove_frame (v : Nat) (j : Job) (s : State) :
    (afterMove v j s).held = s.held ∧ (afterMove v j s).now = s.now ∧ (afterMove v j s).cfg = s.cfg ∧
      (afterMove v j s).hu = s.hu ∧ (afterMove v j s).pbc = s.pbc ∧ (afterMove v j s).pending = s.pending := by
  unfold afterMove
  repeat' split
  all_goals simp

/-- What `unloadOk` leaves unchanged. -/
@[simp] theorem unloadOk_frame (v : Nat) (j : Job) (s : State) :
    (unloadOk v j s).held = s.held ∧ (unloadOk v j s).now = s.now ∧ (unloadOk v j s).cfg = s.cfg ∧
      (unloadOk v j s).hu = s.hu ∧ (unloadOk v j s).pbc = s.pbc ∧ (unloadOk v j s).pending = s.pending := by
  unfold unloadOk
  dsimp only
  repeat' split
  all_goals simp

/-- What `unloadFull` leaves unchanged. -/
@[simp] theorem unloadFull_frame (v : Nat) (j : Job) (s : State) :
    (unloadFull v j s).held = s.held ∧ (unloadFull v j s).now = s.now ∧ (unloadFull v j s).cfg = s.cfg ∧
      (unloadFull v j s).pbc = s.pbc ∧ (unloadFull v j s).pending = s.pending := by
  unfold unloadFull
  dsimp only
  repeat' split
  all_goals simp

/-- What `gotoEnded` leaves unchanged. -/
@[simp] theorem gotoEnded_frame (v : Nat) (r : Vehicle) (t : Nat) (latest haltSent : Bool) (e : Ending) (s : State) :
    (gotoEnded v r t latest haltSent e s).held = s.held ∧ (gotoEnded v r t latest haltSent e s).now = s.now ∧
      (gotoEnded v r t latest haltSent e s).cfg = s.cfg ∧ (gotoEnded v r t latest haltSent e s).pbc = s.pbc ∧
      (gotoEnded v r t latest haltSent e s).pending = s.pending := by
  unfold gotoEnded
  dsimp only
  repeat' split
  all_goals simp

/-- What `loadEnded` leaves unchanged. -/
@[simp] theorem loadEnded_frame (v : Nat) (r : Vehicle) (e : Ending) (s : State) :
    (loadEnded v r e s).held = s.held ∧ (loadEnded v r e s).now = s.now ∧ (loadEnded v r e s).cfg = s.cfg ∧
      (loadEnded v r e s).pending = s.pending := by
  unfold loadEnded
  repeat' split
  all_goals simp

/-- What `unloadEnded` leaves unchanged. -/
@[simp] theorem unloadEnded_frame (v : Nat) (r : Vehicle) (e : Ending) (s : State) :
    (unloadEnded v r e s).held = s.held ∧ (unloadEnded v r e s).now = s.now ∧ (unloadEnded v r e s).cfg = s.cfg ∧
      (unloadEnded v r e s).pbc = s.pbc ∧ (unloadEnded v r e s).pending = s.pending := by
  unfold unloadEnded
  repeat' split
  all_goals simp

/-- What `leaveEnded` leaves unchanged. -/
@[simp] theorem leaveEnded_frame (v : Nat) (r : Vehicle) (haltSent : Bool) (e : Ending) (s : State) :
    (leaveEnded v r haltSent e s).held = s.held ∧ (leaveEnded v r haltSent e s).now = s.now ∧
      (leaveEnded v r haltSent e s).cfg = s.cfg ∧ (leaveEnded v r haltSent e s).pending = s.pending := by
  unfold leaveEnded
  repeat' split
  all_goals simp

/-- What `rosterActs` leaves unchanged. -/
@[simp] theorem rosterActs_frame (i : InFlight) (v : Nat) (r : Vehicle) (e : Ending) (s : State) :
    (rosterActs i v r e s).held = s.held ∧ (rosterActs i v r e s).now = s.now ∧
      (rosterActs i v r e s).cfg = s.cfg ∧ (rosterActs i v r e s).pending = s.pending := by
  unfold rosterActs
  repeat' split
  all_goals simp

/-- What `tellRoster` leaves unchanged. -/
@[simp] theorem tellRoster_frame (i : InFlight) (v : Nat) (e : Ending) (s : State) :
    (tellRoster i v e s).held = s.held ∧ (tellRoster i v e s).now = s.now ∧ (tellRoster i v e s).cfg = s.cfg ∧
      (tellRoster i v e s).pending = s.pending := by
  unfold tellRoster
  repeat' split
  all_goals simp

/-- What `endInFlight` leaves unchanged. -/
@[simp] theorem endInFlight_frame (i : InFlight) (v : Nat) (e : Ending) (s : State) :
    (endInFlight i v e s).held = s.held ∧ (endInFlight i v e s).now = s.now ∧ (endInFlight i v e s).cfg = s.cfg ∧
      (endInFlight i v e s).pending = s.pending := by
  simp [endInFlight]

/-- What `endBehindHalt` leaves unchanged. -/
@[simp] theorem endBehindHalt_frame (i : InFlight) (q : BitVec 4) (d v : Nat) (r : DoneResult) (s : State) :
    (endBehindHalt i q d v r s).held = s.held ∧ (endBehindHalt i q d v r s).now = s.now ∧
      (endBehindHalt i q d v r s).cfg = s.cfg ∧ (endBehindHalt i q d v r s).pending = s.pending := by
  unfold endBehindHalt
  dsimp only
  repeat' split
  all_goals simp

/-- What `doneReport` leaves unchanged. -/
@[simp] theorem doneReport_frame (v : Nat) (seq : BitVec 4) (result : Byte) (carrier : Nat) (s : State) :
    (doneReport v seq result carrier s).held = s.held ∧ (doneReport v seq result carrier s).now = s.now ∧
      (doneReport v seq result carrier s).cfg = s.cfg ∧ (doneReport v seq result carrier s).pending = s.pending := by
  unfold doneReport
  repeat' split
  all_goals simp

/-- What `endQueuedHalt` leaves unchanged. -/
@[simp] theorem endQueuedHalt_frame (x : Context) (q : BitVec 4) (d : Nat) (s : State) :
    (endQueuedHalt x q d s).held = s.held ∧ (endQueuedHalt x q d s).now = s.now ∧
      (endQueuedHalt x q d s).cfg = s.cfg ∧ (endQueuedHalt x q d s).pending = s.pending := by
  simp [endQueuedHalt]

/-- What `limitExpiry` leaves unchanged. -/
@[simp] theorem limitExpiry_frame (v : Nat) (s : State) :
    (limitExpiry v s).held = s.held ∧ (limitExpiry v s).now = s.now ∧ (limitExpiry v s).cfg = s.cfg ∧
      (limitExpiry v s).pending = s.pending := by
  unfold limitExpiry
  repeat' split
  all_goals simp

end Sys2Proof.Machine
end

