-- ==== Sys2Proof/Laws/Dispatcher.lean ====
section
/-! SUPPORT. Frames: for the operations of Machine/Dispatcher.lean, the blocks each leaves as they were. -/

namespace Sys2Proof.Machine

/-- What `reserveForBinding` leaves unchanged. -/
@[simp] theorem reserveForBinding_frame (j : Job) (s : State) :
    (((reserveForBinding j s).getD s)).held = s.held ∧ (((reserveForBinding j s).getD s)).now = s.now ∧
      (((reserveForBinding j s).getD s)).cfg = s.cfg ∧ (((reserveForBinding j s).getD s)).cpc = s.cpc ∧
      (((reserveForBinding j s).getD s)).vr = s.vr ∧ (((reserveForBinding j s).getD s)).flc = s.flc ∧
      (((reserveForBinding j s).getD s)).cu = s.cu ∧ (((reserveForBinding j s).getD s)).hu = s.hu ∧
      (((reserveForBinding j s).getD s)).pbc = s.pbc ∧ (((reserveForBinding j s).getD s)).pending = s.pending := by
  unfold reserveForBinding
  repeat' split
  all_goals simp

/-- What `bindVehicle` leaves unchanged. -/
@[simp] theorem bindVehicle_frame (r : Vehicle) (role : Role) (tag : Nat) (s : State) :
    (bindVehicle r role tag s).held = s.held ∧ (bindVehicle r role tag s).now = s.now ∧
      (bindVehicle r role tag s).cfg = s.cfg ∧ (bindVehicle r role tag s).cpc = s.cpc ∧
      (bindVehicle r role tag s).jt = s.jt ∧ (bindVehicle r role tag s).pt = s.pt ∧
      (bindVehicle r role tag s).decisionPending = s.decisionPending ∧ (bindVehicle r role tag s).cu = s.cu ∧
      (bindVehicle r role tag s).hu = s.hu ∧ (bindVehicle r role tag s).pbc = s.pbc ∧
      (bindVehicle r role tag s).pending = s.pending := by
  unfold bindVehicle
  repeat' split
  all_goals simp

/-- What `closeCallOf` leaves unchanged. -/
@[simp] theorem closeCallOf_frame (tag : Nat) (s : State) :
    (closeCallOf tag s).held = s.held ∧ (closeCallOf tag s).now = s.now ∧ (closeCallOf tag s).cfg = s.cfg ∧
      (closeCallOf tag s).pt = s.pt ∧ (closeCallOf tag s).vr = s.vr ∧ (closeCallOf tag s).flc = s.flc ∧
      (closeCallOf tag s).hu = s.hu ∧ (closeCallOf tag s).pending = s.pending := by
  unfold closeCallOf
  repeat' split
  all_goals simp

/-- What `bindRequest` leaves unchanged. -/
@[simp] theorem bindRequest_frame (c : Choice) (s : State) :
    (bindRequest s c).held = s.held ∧ (bindRequest s c).now = s.now ∧ (bindRequest s c).cfg = s.cfg ∧
      (bindRequest s c).hu = s.hu ∧ (bindRequest s c).pending = s.pending := by
  unfold bindRequest
  split
  · rename_i j r _ _
    have h := reserveForBinding_frame j s
    split
    · split
      · simp_all
      · simp only [wake_frame]
        split <;> simp
    · simp
  · simp

/-- What `handOffRequest` leaves unchanged. -/
@[simp] theorem handOffRequest_frame (tag : Nat) (s : State) :
    (handOffRequest s tag).held = s.held ∧ (handOffRequest s tag).now = s.now ∧
      (handOffRequest s tag).cfg = s.cfg ∧ (handOffRequest s tag).pt = s.pt ∧ (handOffRequest s tag).vr = s.vr ∧
      (handOffRequest s tag).flc = s.flc ∧ (handOffRequest s tag).hu = s.hu ∧
      (handOffRequest s tag).pending = s.pending := by
  unfold handOffRequest
  repeat' split
  all_goals simp

/-- What `passJob` leaves unchanged. -/
@[simp] theorem passJob_frame (acc : Pass × State) (j : Job) :
    ((passJob acc j).2).held = acc.2.held ∧ ((passJob acc j).2).now = acc.2.now ∧
      ((passJob acc j).2).cfg = acc.2.cfg ∧ ((passJob acc j).2).cpc = acc.2.cpc ∧
      ((passJob acc j).2).pt = acc.2.pt ∧ ((passJob acc j).2).vr = acc.2.vr ∧ ((passJob acc j).2).flc = acc.2.flc ∧
      ((passJob acc j).2).decisionPending = acc.2.decisionPending ∧ ((passJob acc j).2).cu = acc.2.cu ∧
      ((passJob acc j).2).hu = acc.2.hu ∧ ((passJob acc j).2).pbc = acc.2.pbc ∧
      ((passJob acc j).2).pending = acc.2.pending := by
  unfold passJob
  dsimp only
  repeat' split
  all_goals simp

/-- What `assignmentPass` leaves unchanged. -/
@[simp] theorem assignmentPass_frame (s : State) :
    ((assignmentPass s).2).held = s.held ∧ ((assignmentPass s).2).now = s.now ∧
      ((assignmentPass s).2).cfg = s.cfg ∧ ((assignmentPass s).2).cpc = s.cpc ∧ ((assignmentPass s).2).pt = s.pt ∧
      ((assignmentPass s).2).vr = s.vr ∧ ((assignmentPass s).2).flc = s.flc ∧
      ((assignmentPass s).2).decisionPending = s.decisionPending ∧ ((assignmentPass s).2).cu = s.cu ∧
      ((assignmentPass s).2).hu = s.hu ∧ ((assignmentPass s).2).pbc = s.pbc ∧
      ((assignmentPass s).2).pending = s.pending := by
  unfold assignmentPass
  exact ⟨foldl_keeps (fun x : Pass × State => x.2.held) _ (by simp) _ _,
    foldl_keeps (fun x : Pass × State => x.2.now) _ (by simp) _ _,
    foldl_keeps (fun x : Pass × State => x.2.cfg) _ (by simp) _ _,
    foldl_keeps (fun x : Pass × State => x.2.cpc) _ (by simp) _ _,
    foldl_keeps (fun x : Pass × State => x.2.pt) _ (by simp) _ _,
    foldl_keeps (fun x : Pass × State => x.2.vr) _ (by simp) _ _,
    foldl_keeps (fun x : Pass × State => x.2.flc) _ (by simp) _ _,
    foldl_keeps (fun x : Pass × State => x.2.decisionPending) _ (by simp) _ _,
    foldl_keeps (fun x : Pass × State => x.2.cu) _ (by simp) _ _,
    foldl_keeps (fun x : Pass × State => x.2.hu) _ (by simp) _ _,
    foldl_keeps (fun x : Pass × State => x.2.pbc) _ (by simp) _ _,
    foldl_keeps (fun x : Pass × State => x.2.pending) _ (by simp) _ _⟩

/-- What `takeDecision` leaves unchanged. -/
@[simp] theorem takeDecision_frame (s : State) :
    (takeDecision s).held = s.held ∧ (takeDecision s).now = s.now ∧ (takeDecision s).cfg = s.cfg ∧
      (takeDecision s).hu = s.hu ∧ (takeDecision s).pending = s.pending := by
  have h := assignmentPass_frame (s.setPending false)
  unfold takeDecision
  generalize assignmentPass (s.setPending false) = r at h
  obtain ⟨p, s'⟩ := r
  simp only [State.setPending_frame] at h
  dsimp only at h ⊢
  refine ⟨(foldl_keeps State.held _ (by simp) _ _).trans ((foldl_keeps State.held _ (by simp) _ _).trans ?_),
    (foldl_keeps State.now _ (by simp) _ _).trans ((foldl_keeps State.now _ (by simp) _ _).trans ?_),
    (foldl_keeps State.cfg _ (by simp) _ _).trans ((foldl_keeps State.cfg _ (by simp) _ _).trans ?_),
    (foldl_keeps State.hu _ (by simp) _ _).trans ((foldl_keeps State.hu _ (by simp) _ _).trans ?_),
    (foldl_keeps State.pending _ (by simp) _ _).trans ((foldl_keeps State.pending _ (by simp) _ _).trans ?_)⟩ <;> simp_all

/-- What `dispatchDecision` leaves unchanged. -/
@[simp] theorem dispatchDecision_frame (s : State) :
    (dispatchDecision s).held = s.held ∧ (dispatchDecision s).now = s.now ∧ (dispatchDecision s).cfg = s.cfg ∧
      (dispatchDecision s).hu = s.hu ∧ (dispatchDecision s).pending = s.pending := by
  unfold dispatchDecision
  repeat' split
  all_goals simp

end Sys2Proof.Machine
end

