-- ==== Sys2Proof/Laws/Levels.lean ====
section
/-! SUPPORT. Frames: for the operations of Machine/Levels.lean, the blocks each leaves as they were. -/

namespace Sys2Proof.Machine

/-- What `changeLevel` leaves unchanged. -/
@[simp] theorem changeLevel_frame (new : Level) (cause : Cause) (s : State) :
    (changeLevel new cause s).held = s.held ∧ (changeLevel new cause s).now = s.now ∧
      (changeLevel new cause s).cfg = s.cfg ∧ (changeLevel new cause s).jt = s.jt ∧
      (changeLevel new cause s).pt = s.pt ∧ (changeLevel new cause s).vr = s.vr ∧
      (changeLevel new cause s).flc = s.flc ∧ (changeLevel new cause s).decisionPending = s.decisionPending ∧
      (changeLevel new cause s).cu = s.cu ∧ (changeLevel new cause s).hu = s.hu ∧
      (changeLevel new cause s).pbc = s.pbc ∧ (changeLevel new cause s).pending = s.pending := by
  simp [changeLevel]

/-- What `dropCallOf` leaves unchanged. -/
@[simp] theorem dropCallOf_frame (tag : Nat) (s : State) :
    (dropCallOf s tag).held = s.held ∧ (dropCallOf s tag).now = s.now ∧ (dropCallOf s tag).cfg = s.cfg ∧
      (dropCallOf s tag).cpc = s.cpc ∧ (dropCallOf s tag).pt = s.pt ∧ (dropCallOf s tag).vr = s.vr ∧
      (dropCallOf s tag).flc = s.flc ∧ (dropCallOf s tag).cu = s.cu ∧ (dropCallOf s tag).hu = s.hu ∧
      (dropCallOf s tag).pbc = s.pbc ∧ (dropCallOf s tag).pending = s.pending := by
  simp [dropCallOf]

/-- What `dropOwnCalls` leaves unchanged. -/
@[simp] theorem dropOwnCalls_frame (s : State) :
    (dropOwnCalls s).held = s.held ∧ (dropOwnCalls s).now = s.now ∧ (dropOwnCalls s).cfg = s.cfg ∧
      (dropOwnCalls s).cpc = s.cpc ∧ (dropOwnCalls s).pt = s.pt ∧ (dropOwnCalls s).vr = s.vr ∧
      (dropOwnCalls s).flc = s.flc ∧ (dropOwnCalls s).hu = s.hu ∧ (dropOwnCalls s).pbc = s.pbc ∧
      (dropOwnCalls s).pending = s.pending := by
  unfold dropOwnCalls
  simp only [State.onCu_frame]
  exact ⟨foldl_keeps State.held _ (by simp) _ _,
    foldl_keeps State.now _ (by simp) _ _,
    foldl_keeps State.cfg _ (by simp) _ _,
    foldl_keeps State.cpc _ (by simp) _ _,
    foldl_keeps State.pt _ (by simp) _ _,
    foldl_keeps State.vr _ (by simp) _ _,
    foldl_keeps State.flc _ (by simp) _ _,
    foldl_keeps State.hu _ (by simp) _ _,
    foldl_keeps State.pbc _ (by simp) _ _,
    foldl_keeps State.pending _ (by simp) _ _⟩

/-- What `dropIncoming` leaves unchanged. -/
@[simp] theorem dropIncoming_frame (s : State) :
    (dropIncoming s).held = s.held ∧ (dropIncoming s).now = s.now ∧ (dropIncoming s).cfg = s.cfg ∧
      (dropIncoming s).cpc = s.cpc ∧ (dropIncoming s).jt = s.jt ∧ (dropIncoming s).pt = s.pt ∧
      (dropIncoming s).flc = s.flc ∧ (dropIncoming s).hu = s.hu ∧ (dropIncoming s).pbc = s.pbc ∧
      (dropIncoming s).pending = s.pending := by
  unfold dropIncoming
  simp only [State.onCu_frame]
  exact ⟨foldl_keeps State.held _ (by simp) _ _,
    foldl_keeps State.now _ (by simp) _ _,
    foldl_keeps State.cfg _ (by simp) _ _,
    foldl_keeps State.cpc _ (by simp) _ _,
    foldl_keeps State.jt _ (by simp) _ _,
    foldl_keeps State.pt _ (by simp) _ _,
    foldl_keeps State.flc _ (by simp) _ _,
    foldl_keeps State.hu _ (by simp) _ _,
    foldl_keeps State.pbc _ (by simp) _ _,
    foldl_keeps State.pending _ (by simp) _ _⟩

/-- What `holdAsks` leaves unchanged. -/
@[simp] theorem holdAsks_frame (s : State) :
    (holdAsks s).held = s.held ∧ (holdAsks s).now = s.now ∧ (holdAsks s).cfg = s.cfg ∧ (holdAsks s).cpc = s.cpc ∧
      (holdAsks s).jt = s.jt ∧ (holdAsks s).pt = s.pt ∧ (holdAsks s).vr = s.vr ∧ (holdAsks s).flc = s.flc ∧
      (holdAsks s).decisionPending = s.decisionPending ∧ (holdAsks s).cu = s.cu ∧ (holdAsks s).pbc = s.pbc ∧
      (holdAsks s).pending = s.pending := by
  simp [holdAsks]

/-- What `holdRemoteJobs` leaves unchanged. -/
@[simp] theorem holdRemoteJobs_frame (s : State) :
    (holdRemoteJobs s).held = s.held ∧ (holdRemoteJobs s).now = s.now ∧ (holdRemoteJobs s).cfg = s.cfg ∧
      (holdRemoteJobs s).cpc = s.cpc ∧ (holdRemoteJobs s).pt = s.pt ∧ (holdRemoteJobs s).vr = s.vr ∧
      (holdRemoteJobs s).flc = s.flc ∧ (holdRemoteJobs s).decisionPending = s.decisionPending ∧
      (holdRemoteJobs s).cu = s.cu ∧ (holdRemoteJobs s).hu = s.hu ∧ (holdRemoteJobs s).pbc = s.pbc ∧
      (holdRemoteJobs s).pending = s.pending := by
  simp [holdRemoteJobs]

/-- What `emptyTxQueue` leaves unchanged. -/
@[simp] theorem emptyTxQueue_frame (s : State) :
    (emptyTxQueue s).held = s.held ∧ (emptyTxQueue s).now = s.now ∧ (emptyTxQueue s).cfg = s.cfg ∧
      (emptyTxQueue s).cpc = s.cpc ∧ (emptyTxQueue s).jt = s.jt ∧ (emptyTxQueue s).pt = s.pt ∧
      (emptyTxQueue s).vr = s.vr ∧ (emptyTxQueue s).flc = s.flc ∧
      (emptyTxQueue s).decisionPending = s.decisionPending ∧ (emptyTxQueue s).cu = s.cu ∧
      (emptyTxQueue s).hu = s.hu ∧ (emptyTxQueue s).pending = s.pending := by
  simp [emptyTxQueue]

/-- What `isolateWith` leaves unchanged. -/
@[simp] theorem isolateWith_frame (cause : Cause) (s : State) :
    (isolateWith cause s).held = s.held ∧ (isolateWith cause s).now = s.now ∧ (isolateWith cause s).cfg = s.cfg ∧
      (isolateWith cause s).pt = s.pt ∧ (isolateWith cause s).flc = s.flc ∧
      (isolateWith cause s).pending = s.pending := by
  simp [isolateWith]

/-- What `startLevel` leaves unchanged. -/
@[simp] theorem startLevel_frame (s : State) :
    (startLevel s).held = s.held ∧ (startLevel s).now = s.now ∧ (startLevel s).cfg = s.cfg ∧
      (startLevel s).vr = s.vr ∧ (startLevel s).hu = s.hu ∧ (startLevel s).pending = s.pending := by
  simp [startLevel]

/-- What `resumeLevel` leaves unchanged. -/
@[simp] theorem resumeLevel_frame (s : State) :
    (resumeLevel s).held = s.held ∧ (resumeLevel s).now = s.now ∧ (resumeLevel s).cfg = s.cfg ∧
      (resumeLevel s).pt = s.pt ∧ (resumeLevel s).vr = s.vr ∧ (resumeLevel s).flc = s.flc ∧
      (resumeLevel s).pending = s.pending := by
  simp [resumeLevel]

/-- What `haltOwned` leaves unchanged. -/
@[simp] theorem haltOwned_frame (s : State) :
    (haltOwned s).held = s.held ∧ (haltOwned s).now = s.now ∧ (haltOwned s).cfg = s.cfg ∧
      (haltOwned s).cpc = s.cpc ∧ (haltOwned s).jt = s.jt ∧ (haltOwned s).pt = s.pt ∧ (haltOwned s).vr = s.vr ∧
      (haltOwned s).decisionPending = s.decisionPending ∧ (haltOwned s).cu = s.cu ∧ (haltOwned s).hu = s.hu ∧
      (haltOwned s).pbc = s.pbc ∧ (haltOwned s).pending = s.pending := by
  unfold haltOwned
  exact ⟨foldl_keeps State.held _ (by simp) _ _,
    foldl_keeps State.now _ (by simp) _ _,
    foldl_keeps State.cfg _ (by simp) _ _,
    foldl_keeps State.cpc _ (by simp) _ _,
    foldl_keeps State.jt _ (by simp) _ _,
    foldl_keeps State.pt _ (by simp) _ _,
    foldl_keeps State.vr _ (by simp) _ _,
    foldl_keeps State.decisionPending _ (by simp) _ _,
    foldl_keeps State.cu _ (by simp) _ _,
    foldl_keeps State.hu _ (by simp) _ _,
    foldl_keeps State.pbc _ (by simp) _ _,
    foldl_keeps State.pending _ (by simp) _ _⟩

/-- What `stopTables` leaves unchanged. -/
@[simp] theorem stopTables_frame (s : State) :
    (stopTables s).held = s.held ∧ (stopTables s).now = s.now ∧ (stopTables s).cfg = s.cfg ∧
      (stopTables s).cpc = s.cpc ∧ (stopTables s).flc = s.flc ∧ (stopTables s).pending = s.pending := by
  simp [stopTables]

/-- What `stopLevel` leaves unchanged. -/
@[simp] theorem stopLevel_frame (s : State) :
    (stopLevel s).held = s.held ∧ (stopLevel s).now = s.now ∧ (stopLevel s).cfg = s.cfg ∧
      (stopLevel s).pending = s.pending := by
  simp [stopLevel]

end Sys2Proof.Machine
end

