-- ==== Sys2Proof/Laws/Frames.lean ====
section
/-! SUPPORT. Frames: for the operations of Machine/Frames.lean, the blocks each leaves as they were. -/

namespace Sys2Proof.Machine

/-- What `repeatCall` leaves unchanged. -/
@[simp] theorem repeatCall_frame (e : Incoming) (s : State) :
    (repeatCall e s).held = s.held ∧ (repeatCall e s).now = s.now ∧ (repeatCall e s).cfg = s.cfg ∧
      (repeatCall e s).pt = s.pt ∧ (repeatCall e s).flc = s.flc ∧ (repeatCall e s).hu = s.hu ∧
      (repeatCall e s).pending = s.pending := by
  unfold repeatCall
  repeat' split
  all_goals simp

/-- What `callHeard` leaves unchanged. -/
@[simp] theorem callHeard_frame (caller : Nat) (id : CallId) (urgency : Nat) (s : State) :
    (callHeard caller id urgency s).held = s.held ∧ (callHeard caller id urgency s).now = s.now ∧
      (callHeard caller id urgency s).cfg = s.cfg ∧ (callHeard caller id urgency s).pt = s.pt ∧
      (callHeard caller id urgency s).flc = s.flc ∧ (callHeard caller id urgency s).hu = s.hu ∧
      (callHeard caller id urgency s).pending = s.pending := by
  unfold callHeard
  repeat' split
  all_goals simp

/-- What `keepOffer` leaves unchanged. -/
@[simp] theorem keepOffer_frame (c : OwnCall) (o : BestOffer) (s : State) :
    (keepOffer c o s).held = s.held ∧ (keepOffer c o s).now = s.now ∧ (keepOffer c o s).cfg = s.cfg ∧
      (keepOffer c o s).cpc = s.cpc ∧ (keepOffer c o s).jt = s.jt ∧ (keepOffer c o s).pt = s.pt ∧
      (keepOffer c o s).vr = s.vr ∧ (keepOffer c o s).flc = s.flc ∧
      (keepOffer c o s).decisionPending = s.decisionPending ∧ (keepOffer c o s).hu = s.hu ∧
      (keepOffer c o s).pbc = s.pbc ∧ (keepOffer c o s).pending = s.pending := by
  simp [keepOffer]

/-- What `offerForOpen` leaves unchanged. -/
@[simp] theorem offerForOpen_frame (c : OwnCall) (st v eta : Nat) (s : State) :
    (offerForOpen c st v eta s).held = s.held ∧ (offerForOpen c st v eta s).now = s.now ∧
      (offerForOpen c st v eta s).cfg = s.cfg ∧ (offerForOpen c st v eta s).flc = s.flc ∧
      (offerForOpen c st v eta s).hu = s.hu ∧ (offerForOpen c st v eta s).pending = s.pending := by
  unfold offerForOpen
  split
  · simp
  · dsimp only
    split
    · have h := takeStep_frame c
        { station := st, vehicle := v,
          total := callerTotal eta (((findJob c.tag s).map fun j => pickupPosition j s).getD 0) s } s
      generalize takeStep c _ s = r at h ⊢
      cases r <;> simp_all
    · simp

/-- What `offerHeard` leaves unchanged. -/
@[simp] theorem offerHeard_frame (st : Nat) (id : CallId) (v eta : Nat) (s : State) :
    (offerHeard st id v eta s).held = s.held ∧ (offerHeard st id v eta s).now = s.now ∧
      (offerHeard st id v eta s).cfg = s.cfg ∧ (offerHeard st id v eta s).flc = s.flc ∧
      (offerHeard st id v eta s).hu = s.hu ∧ (offerHeard st id v eta s).pending = s.pending := by
  unfold offerHeard
  repeat' split
  all_goals simp

/-- What `takeForUs` leaves unchanged. -/
@[simp] theorem takeForUs_frame (id : CallId) (v : Nat) (s : State) :
    (takeForUs id v s).held = s.held ∧ (takeForUs id v s).now = s.now ∧ (takeForUs id v s).cfg = s.cfg ∧
      (takeForUs id v s).pt = s.pt ∧ (takeForUs id v s).hu = s.hu ∧ (takeForUs id v s).pending = s.pending := by
  unfold takeForUs
  repeat' split
  all_goals simp

/-- What `takeHeard` leaves unchanged. -/
@[simp] theorem takeHeard_frame (id : CallId) (st v : Nat) (s : State) :
    (takeHeard id st v s).held = s.held ∧ (takeHeard id st v s).now = s.now ∧ (takeHeard id st v s).cfg = s.cfg ∧
      (takeHeard id st v s).pt = s.pt ∧ (takeHeard id st v s).hu = s.hu ∧
      (takeHeard id st v s).pending = s.pending := by
  unfold takeHeard
  repeat' split
  all_goals simp

/-- What `closeHeard` leaves unchanged. -/
@[simp] theorem closeHeard_frame (id : CallId) (s : State) :
    (closeHeard id s).held = s.held ∧ (closeHeard id s).now = s.now ∧ (closeHeard id s).cfg = s.cfg ∧
      (closeHeard id s).cpc = s.cpc ∧ (closeHeard id s).jt = s.jt ∧ (closeHeard id s).pt = s.pt ∧
      (closeHeard id s).flc = s.flc ∧ (closeHeard id s).hu = s.hu ∧ (closeHeard id s).pbc = s.pbc ∧
      (closeHeard id s).pending = s.pending := by
  unfold closeHeard
  repeat' split
  all_goals simp

/-- What `dropTaken` leaves unchanged. -/
@[simp] theorem dropTaken_frame (t : TakenCall) (s : State) :
    (dropTaken t s).held = s.held ∧ (dropTaken t s).now = s.now ∧ (dropTaken t s).cfg = s.cfg ∧
      (dropTaken t s).cpc = s.cpc ∧ (dropTaken t s).pt = s.pt ∧ (dropTaken t s).vr = s.vr ∧
      (dropTaken t s).flc = s.flc ∧ (dropTaken t s).cu = s.cu ∧ (dropTaken t s).hu = s.hu ∧
      (dropTaken t s).pbc = s.pbc ∧ (dropTaken t s).pending = s.pending := by
  simp [dropTaken]

/-- What `refuseHeard` leaves unchanged. -/
@[simp] theorem refuseHeard_frame (st : Nat) (id : CallId) (v : Nat) (s : State) :
    (refuseHeard st id v s).held = s.held ∧ (refuseHeard st id v s).now = s.now ∧
      (refuseHeard st id v s).cfg = s.cfg ∧ (refuseHeard st id v s).flc = s.flc ∧
      (refuseHeard st id v s).hu = s.hu ∧ (refuseHeard st id v s).pending = s.pending := by
  unfold refuseHeard
  dsimp only
  repeat' split
  all_goals simp

/-- What `answerDefer` leaves unchanged. -/
@[simp] theorem answerDefer_frame (st : Nat) (q reason : Byte) (s : State) :
    (answerDefer st q reason s).held = s.held ∧ (answerDefer st q reason s).now = s.now ∧
      (answerDefer st q reason s).cfg = s.cfg ∧ (answerDefer st q reason s).pt = s.pt ∧
      (answerDefer st q reason s).vr = s.vr ∧ (answerDefer st q reason s).flc = s.flc ∧
      (answerDefer st q reason s).hu = s.hu ∧ (answerDefer st q reason s).pending = s.pending := by
  simp [answerDefer]

/-- What `answerGrant` leaves unchanged. -/
@[simp] theorem answerGrant_frame (st : Nat) (q : Byte) (v : Nat) (s : State) :
    (answerGrant st q v s).held = s.held ∧ (answerGrant st q v s).now = s.now ∧
      (answerGrant st q v s).cfg = s.cfg ∧ (answerGrant st q v s).pt = s.pt ∧ (answerGrant st q v s).vr = s.vr ∧
      (answerGrant st q v s).flc = s.flc ∧ (answerGrant st q v s).hu = s.hu ∧
      (answerGrant st q v s).pending = s.pending := by
  simp [answerGrant]

/-- What `grantInbound` leaves unchanged. -/
@[simp] theorem grantInbound_frame (st : Nat) (q : Byte) (v carrier cls age p : Nat) (s : State) :
    (grantInbound st q v carrier cls age p s).held = s.held ∧
      (grantInbound st q v carrier cls age p s).now = s.now ∧
      (grantInbound st q v carrier cls age p s).cfg = s.cfg ∧
      (grantInbound st q v carrier cls age p s).flc = s.flc ∧ (grantInbound st q v carrier cls age p s).hu = s.hu ∧
      (grantInbound st q v carrier cls age p s).pending = s.pending := by
  simp [grantInbound]

/-- What `askInRun` leaves unchanged. -/
@[simp] theorem askInRun_frame (st : Nat) (q : Byte) (v carrier cls age p : Nat) (s : State) :
    (askInRun st q v carrier cls age p s).held = s.held ∧ (askInRun st q v carrier cls age p s).now = s.now ∧
      (askInRun st q v carrier cls age p s).cfg = s.cfg ∧ (askInRun st q v carrier cls age p s).flc = s.flc ∧
      (askInRun st q v carrier cls age p s).hu = s.hu ∧ (askInRun st q v carrier cls age p s).pending = s.pending := by
  unfold askInRun
  repeat' split
  all_goals simp

/-- What `askHeard` leaves unchanged. -/
@[simp] theorem askHeard_frame (st : Nat) (q : Byte) (v carrier cls age p : Nat) (s : State) :
    (askHeard st q v carrier cls age p s).held = s.held ∧ (askHeard st q v carrier cls age p s).now = s.now ∧
      (askHeard st q v carrier cls age p s).cfg = s.cfg ∧ (askHeard st q v carrier cls age p s).flc = s.flc ∧
      (askHeard st q v carrier cls age p s).hu = s.hu ∧ (askHeard st q v carrier cls age p s).pending = s.pending := by
  unfold askHeard
  repeat' split
  all_goals simp

/-- What `grantHeard` leaves unchanged. -/
@[simp] theorem grantHeard_frame (st : Nat) (q : Byte) (v : Nat) (s : State) :
    (grantHeard st q v s).held = s.held ∧ (grantHeard st q v s).now = s.now ∧ (grantHeard st q v s).cfg = s.cfg ∧
      (grantHeard st q v s).cpc = s.cpc ∧ (grantHeard st q v s).pt = s.pt ∧ (grantHeard st q v s).vr = s.vr ∧
      (grantHeard st q v s).flc = s.flc ∧ (grantHeard st q v s).decisionPending = s.decisionPending ∧
      (grantHeard st q v s).cu = s.cu ∧ (grantHeard st q v s).pbc = s.pbc ∧
      (grantHeard st q v s).pending = s.pending := by
  unfold grantHeard
  repeat' split
  all_goals simp

/-- What `deferHeard` leaves unchanged. -/
@[simp] theorem deferHeard_frame (st : Nat) (q : Byte) (retryAfter : Nat) (s : State) :
    (deferHeard st q retryAfter s).held = s.held ∧ (deferHeard st q retryAfter s).now = s.now ∧
      (deferHeard st q retryAfter s).cfg = s.cfg ∧ (deferHeard st q retryAfter s).cpc = s.cpc ∧
      (deferHeard st q retryAfter s).jt = s.jt ∧ (deferHeard st q retryAfter s).pt = s.pt ∧
      (deferHeard st q retryAfter s).vr = s.vr ∧ (deferHeard st q retryAfter s).flc = s.flc ∧
      (deferHeard st q retryAfter s).decisionPending = s.decisionPending ∧
      (deferHeard st q retryAfter s).cu = s.cu ∧ (deferHeard st q retryAfter s).pbc = s.pbc ∧
      (deferHeard st q retryAfter s).pending = s.pending := by
  unfold deferHeard
  repeat' split
  all_goals simp

/-- What `denyHeard` leaves unchanged. -/
@[simp] theorem denyHeard_frame (st : Nat) (q : Byte) (s : State) :
    (denyHeard st q s).held = s.held ∧ (denyHeard st q s).now = s.now ∧ (denyHeard st q s).cfg = s.cfg ∧
      (denyHeard st q s).cu = s.cu ∧ (denyHeard st q s).pbc = s.pbc ∧ (denyHeard st q s).pending = s.pending := by
  unfold denyHeard
  repeat' split
  all_goals simp

/-- What `enterTransit` leaves unchanged. -/
@[simp] theorem enterTransit_frame (v : Nat) (s : State) :
    (enterTransit v s).held = s.held ∧ (enterTransit v s).now = s.now ∧ (enterTransit v s).cfg = s.cfg ∧
      (enterTransit v s).cpc = s.cpc ∧ (enterTransit v s).jt = s.jt ∧ (enterTransit v s).pt = s.pt ∧
      (enterTransit v s).flc = s.flc ∧ (enterTransit v s).decisionPending = s.decisionPending ∧
      (enterTransit v s).cu = s.cu ∧ (enterTransit v s).hu = s.hu ∧ (enterTransit v s).pbc = s.pbc ∧
      (enterTransit v s).pending = s.pending := by
  simp [enterTransit]

/-- What `handoffLentHeard` leaves unchanged. -/
@[simp] theorem handoffLentHeard_frame (st v : Nat) (id : CallId) (s : State) :
    (handoffLentHeard st v id s).held = s.held ∧ (handoffLentHeard st v id s).now = s.now ∧
      (handoffLentHeard st v id s).cfg = s.cfg ∧ (handoffLentHeard st v id s).cpc = s.cpc ∧
      (handoffLentHeard st v id s).jt = s.jt ∧ (handoffLentHeard st v id s).pt = s.pt ∧
      (handoffLentHeard st v id s).flc = s.flc ∧ (handoffLentHeard st v id s).hu = s.hu ∧
      (handoffLentHeard st v id s).pbc = s.pbc ∧ (handoffLentHeard st v id s).pending = s.pending := by
  unfold handoffLentHeard
  repeat' split
  all_goals simp

/-- What `settleTag` leaves unchanged. -/
@[simp] theorem settleTag_frame (v own sent : Nat) (s : State) :
    (settleTag v own sent s).held = s.held ∧ (settleTag v own sent s).now = s.now ∧
      (settleTag v own sent s).cfg = s.cfg ∧ (settleTag v own sent s).cpc = s.cpc ∧
      (settleTag v own sent s).pt = s.pt ∧ (settleTag v own sent s).flc = s.flc ∧
      (settleTag v own sent s).decisionPending = s.decisionPending ∧ (settleTag v own sent s).cu = s.cu ∧
      (settleTag v own sent s).hu = s.hu ∧ (settleTag v own sent s).pbc = s.pbc ∧
      (settleTag v own sent s).pending = s.pending := by
  unfold settleTag
  repeat' split
  all_goals simp

/-- What `handoffLadenHeard` leaves unchanged. -/
@[simp] theorem handoffLadenHeard_frame (st v : Nat) (q : Byte) (tag carrier cls age movesDone : Nat) (s : State) :
    (handoffLadenHeard st v q tag carrier cls age movesDone s).held = s.held ∧
      (handoffLadenHeard st v q tag carrier cls age movesDone s).now = s.now ∧
      (handoffLadenHeard st v q tag carrier cls age movesDone s).cfg = s.cfg ∧
      (handoffLadenHeard st v q tag carrier cls age movesDone s).cpc = s.cpc ∧
      (handoffLadenHeard st v q tag carrier cls age movesDone s).pt = s.pt ∧
      (handoffLadenHeard st v q tag carrier cls age movesDone s).flc = s.flc ∧
      (handoffLadenHeard st v q tag carrier cls age movesDone s).decisionPending = s.decisionPending ∧
      (handoffLadenHeard st v q tag carrier cls age movesDone s).cu = s.cu ∧
      (handoffLadenHeard st v q tag carrier cls age movesDone s).hu = s.hu ∧
      (handoffLadenHeard st v q tag carrier cls age movesDone s).pbc = s.pbc ∧
      (handoffLadenHeard st v q tag carrier cls age movesDone s).pending = s.pending := by
  unfold handoffLadenHeard
  repeat' split
  all_goals simp

end Sys2Proof.Machine
end

