-- ==== Sys2Proof/Laws/Receive.lean ====
section
/-! SUPPORT. Frames: for the operations of Machine/Receive.lean, the blocks each leaves as they were. -/

namespace Sys2Proof.Machine

/-- What `refreshPeer` leaves unchanged. -/
@[simp] theorem refreshPeer_frame (st : Nat) (s : State) :
    (refreshPeer st s).held = s.held ∧ (refreshPeer st s).now = s.now ∧ (refreshPeer st s).cfg = s.cfg ∧
      (refreshPeer st s).cpc = s.cpc ∧ (refreshPeer st s).jt = s.jt ∧ (refreshPeer st s).pt = s.pt ∧
      (refreshPeer st s).vr = s.vr ∧ (refreshPeer st s).flc = s.flc ∧ (refreshPeer st s).cu = s.cu ∧
      (refreshPeer st s).hu = s.hu ∧ (refreshPeer st s).pending = s.pending := by
  unfold refreshPeer
  dsimp only
  repeat' split
  all_goals simp

/-- What `storeBeacon` leaves unchanged. -/
@[simp] theorem storeBeacon_frame (st : Nat) (spare records slots waiting quiet : Byte) (s : State) :
    (storeBeacon st spare records slots waiting quiet s).held = s.held ∧
      (storeBeacon st spare records slots waiting quiet s).now = s.now ∧
      (storeBeacon st spare records slots waiting quiet s).cfg = s.cfg ∧
      (storeBeacon st spare records slots waiting quiet s).cpc = s.cpc ∧
      (storeBeacon st spare records slots waiting quiet s).jt = s.jt ∧
      (storeBeacon st spare records slots waiting quiet s).pt = s.pt ∧
      (storeBeacon st spare records slots waiting quiet s).vr = s.vr ∧
      (storeBeacon st spare records slots waiting quiet s).flc = s.flc ∧
      (storeBeacon st spare records slots waiting quiet s).decisionPending = s.decisionPending ∧
      (storeBeacon st spare records slots waiting quiet s).cu = s.cu ∧
      (storeBeacon st spare records slots waiting quiet s).hu = s.hu ∧
      (storeBeacon st spare records slots waiting quiet s).pending = s.pending := by
  simp [storeBeacon]

/-- What `deliver` leaves unchanged. -/
@[simp] theorem deliver_frame (st : Nat) (p : Payload) (s : State) :
    (deliver st p s).held = s.held ∧ (deliver st p s).now = s.now ∧ (deliver st p s).cfg = s.cfg ∧
      (deliver st p s).pending = s.pending := by
  unfold deliver
  repeat' split
  all_goals simp

/-- What `retestAfter` leaves unchanged. -/
@[simp] theorem retestAfter_frame (st : Nat) (changed : Bool) (s : State) :
    (retestAfter st changed s).held = s.held ∧ (retestAfter st changed s).now = s.now ∧
      (retestAfter st changed s).cfg = s.cfg ∧ (retestAfter st changed s).pt = s.pt ∧
      (retestAfter st changed s).vr = s.vr ∧ (retestAfter st changed s).flc = s.flc ∧
      (retestAfter st changed s).pending = s.pending := by
  unfold retestAfter
  repeat' split
  all_goals simp

/-- What `otherFrame` leaves unchanged. -/
@[simp] theorem otherFrame_frame (st : Nat) (p : Option Payload) (s : State) :
    (otherFrame st p s).held = s.held ∧ (otherFrame st p s).now = s.now ∧ (otherFrame st p s).cfg = s.cfg ∧
      (otherFrame st p s).pending = s.pending := by
  unfold otherFrame
  dsimp only
  repeat' split
  all_goals simp

/-- What `duplicateFrame` leaves unchanged. -/
@[simp] theorem duplicateFrame_frame (s : State) :
    (duplicateFrame s).held = s.held ∧ (duplicateFrame s).now = s.now ∧ (duplicateFrame s).cfg = s.cfg ∧
      (duplicateFrame s).pt = s.pt ∧ (duplicateFrame s).flc = s.flc ∧ (duplicateFrame s).pending = s.pending := by
  unfold duplicateFrame
  dsimp only
  repeat' split
  all_goals simp

/-- What `ownNumberFrame` leaves unchanged. -/
@[simp] theorem ownNumberFrame_frame (s : State) :
    (ownNumberFrame s).held = s.held ∧ (ownNumberFrame s).now = s.now ∧ (ownNumberFrame s).cfg = s.cfg ∧
      (ownNumberFrame s).pt = s.pt ∧ (ownNumberFrame s).flc = s.flc ∧ (ownNumberFrame s).pending = s.pending := by
  unfold ownNumberFrame
  repeat' split
  all_goals simp

/-- All that `ownNumberFrame` can do, with what each needs: nothing, a count alone, or a count and R168. -/
theorem ownNumberFrame_cases (s : State) :
    (∃ o, s.pbc.onLine = some o ∧ o.line = s.pbc.observed ∧ ownNumberFrame s = s) ∨
      (∃ o, s.pbc.onLine = some o ∧ o.line ≠ s.pbc.observed ∧
        ownNumberFrame s = countGood s.pbc.observed s) ∨
      (s.pbc.onLine = none ∧ s.pbc.ownCopy = some (s.pbc.observed, s.now) ∧
        ownNumberFrame s = countGood s.pbc.observed (s.onPbc fun b => { b with ownCopy := none })) ∨
      (s.pbc.onLine = none ∧ s.pbc.ownCopy ≠ some (s.pbc.observed, s.now) ∧
        ownNumberFrame s = duplicateFrame (countGood s.pbc.observed s)) := by
  unfold ownNumberFrame
  split
  · next o ho =>
    split
    · next hl => exact .inl ⟨o, ho, hl, rfl⟩
    · next hl => exact .inr (.inl ⟨o, ho, hl, rfl⟩)
  · next ho =>
    split
    · next hc => exact .inr (.inr (.inl ⟨ho, hc, rfl⟩))
    · next hc => exact .inr (.inr (.inr ⟨ho, hc, rfl⟩))

/-- What `observedFrame` leaves unchanged. -/
@[simp] theorem observedFrame_frame (h : FrameHead) (p : Option Payload) (s : State) :
    (observedFrame h p s).held = s.held ∧ (observedFrame h p s).now = s.now ∧ (observedFrame h p s).cfg = s.cfg ∧
      (observedFrame h p s).pending = s.pending := by
  unfold observedFrame
  repeat' split
  all_goals simp

/-- What `countVersion` leaves unchanged. -/
@[simp] theorem countVersion_frame (l : Line) (s : State) :
    (countVersion l s).held = s.held ∧ (countVersion l s).now = s.now ∧ (countVersion l s).cfg = s.cfg ∧
      (countVersion l s).jt = s.jt ∧ (countVersion l s).pt = s.pt ∧ (countVersion l s).vr = s.vr ∧
      (countVersion l s).flc = s.flc ∧ (countVersion l s).decisionPending = s.decisionPending ∧
      (countVersion l s).cu = s.cu ∧ (countVersion l s).hu = s.hu ∧ (countVersion l s).pending = s.pending := by
  unfold countVersion
  repeat' split
  all_goals simp

/-- What `frameBytes` leaves unchanged. -/
@[simp] theorem frameBytes_frame (l : Line) (bytes : List Byte) (s : State) :
    (frameBytes l bytes s).held = s.held ∧ (frameBytes l bytes s).now = s.now ∧
      (frameBytes l bytes s).cfg = s.cfg ∧ (frameBytes l bytes s).pending = s.pending := by
  unfold frameBytes
  repeat' split
  all_goals simp

/-- What `beginAttempt` leaves unchanged. -/
@[simp] theorem beginAttempt_frame (s : State) :
    (beginAttempt s).held = s.held ∧ (beginAttempt s).now = s.now ∧ (beginAttempt s).cfg = s.cfg ∧
      (beginAttempt s).cpc = s.cpc ∧ (beginAttempt s).jt = s.jt ∧ (beginAttempt s).pt = s.pt ∧
      (beginAttempt s).vr = s.vr ∧ (beginAttempt s).flc = s.flc ∧
      (beginAttempt s).decisionPending = s.decisionPending ∧ (beginAttempt s).cu = s.cu ∧
      (beginAttempt s).hu = s.hu ∧ (beginAttempt s).pending = s.pending := by
  unfold beginAttempt
  repeat' split
  all_goals simp

/-- What `returnFrame` leaves unchanged. -/
@[simp] theorem returnFrame_frame (f : TxFrame) (s : State) :
    (returnFrame f s).held = s.held ∧ (returnFrame f s).now = s.now ∧ (returnFrame f s).cfg = s.cfg ∧
      (returnFrame f s).pt = s.pt ∧ (returnFrame f s).vr = s.vr ∧ (returnFrame f s).flc = s.flc ∧
      (returnFrame f s).hu = s.hu ∧ (returnFrame f s).pending = s.pending := by
  unfold returnFrame
  split
  · simp
  · have h := placeAtFull_frame f s
    generalize placeAtFull f s = r at h ⊢
    obtain ⟨s', o⟩ := r
    cases o <;> simp_all

/-- What `loseContention` leaves unchanged. -/
@[simp] theorem loseContention_frame (s : State) :
    (loseContention s).held = s.held ∧ (loseContention s).now = s.now ∧ (loseContention s).cfg = s.cfg ∧
      (loseContention s).pt = s.pt ∧ (loseContention s).vr = s.vr ∧ (loseContention s).flc = s.flc ∧
      (loseContention s).hu = s.hu ∧ (loseContention s).pending = s.pending := by
  unfold loseContention
  repeat' split
  all_goals simp

/-- What `countEcho` leaves unchanged. -/
@[simp] theorem countEcho_frame (l : Line) (bytes : List Byte) (s : State) :
    (countEcho l bytes s).held = s.held ∧ (countEcho l bytes s).now = s.now ∧ (countEcho l bytes s).cfg = s.cfg ∧
      (countEcho l bytes s).jt = s.jt ∧ (countEcho l bytes s).pt = s.pt ∧ (countEcho l bytes s).vr = s.vr ∧
      (countEcho l bytes s).flc = s.flc ∧ (countEcho l bytes s).decisionPending = s.decisionPending ∧
      (countEcho l bytes s).cu = s.cu ∧ (countEcho l bytes s).hu = s.hu ∧
      (countEcho l bytes s).pending = s.pending := by
  unfold countEcho
  repeat' split
  all_goals simp

/-- What `judgeEcho` leaves unchanged. -/
@[simp] theorem judgeEcho_frame (o : OnLine) (echo : Option (List Byte)) (s : State) :
    (judgeEcho o echo s).held = s.held ∧ (judgeEcho o echo s).now = s.now ∧ (judgeEcho o echo s).cfg = s.cfg ∧
      (judgeEcho o echo s).jt = s.jt ∧ (judgeEcho o echo s).pt = s.pt ∧ (judgeEcho o echo s).vr = s.vr ∧
      (judgeEcho o echo s).flc = s.flc ∧ (judgeEcho o echo s).decisionPending = s.decisionPending ∧
      (judgeEcho o echo s).cu = s.cu ∧ (judgeEcho o echo s).hu = s.hu ∧ (judgeEcho o echo s).pending = s.pending := by
  unfold judgeEcho
  repeat' split
  all_goals simp

/-- What `toldSent` leaves unchanged. -/
@[simp] theorem toldSent_frame (p : Payload) (s : State) :
    (toldSent p s).held = s.held ∧ (toldSent p s).now = s.now ∧ (toldSent p s).cfg = s.cfg ∧
      (toldSent p s).cpc = s.cpc ∧ (toldSent p s).jt = s.jt ∧ (toldSent p s).pt = s.pt ∧ (toldSent p s).vr = s.vr ∧
      (toldSent p s).flc = s.flc ∧ (toldSent p s).decisionPending = s.decisionPending ∧ (toldSent p s).hu = s.hu ∧
      (toldSent p s).pbc = s.pbc ∧ (toldSent p s).pending = s.pending := by
  unfold toldSent
  repeat' split
  all_goals simp

/-- What `leaveLine` does: it takes the frame off the line and touches the Peer Bus Controller alone. -/
@[simp] theorem leaveLine_frame (o : OnLine) (s : State) :
    (leaveLine o s).held = s.held ∧ (leaveLine o s).now = s.now ∧ (leaveLine o s).cfg = s.cfg ∧
      (leaveLine o s).cpc = s.cpc ∧ (leaveLine o s).jt = s.jt ∧ (leaveLine o s).pt = s.pt ∧
      (leaveLine o s).vr = s.vr ∧ (leaveLine o s).flc = s.flc ∧
      (leaveLine o s).decisionPending = s.decisionPending ∧ (leaveLine o s).cu = s.cu ∧ (leaveLine o s).hu = s.hu ∧
      (leaveLine o s).pending = s.pending ∧ (leaveLine o s).pbc.onLine = none := by
  simp [leaveLine]

/-- What `endTransmission` leaves unchanged. -/
@[simp] theorem endTransmission_frame (echo : Option (List Byte)) (s : State) :
    (endTransmission echo s).held = s.held ∧ (endTransmission echo s).now = s.now ∧
      (endTransmission echo s).cfg = s.cfg ∧ (endTransmission echo s).pt = s.pt ∧
      (endTransmission echo s).flc = s.flc ∧ (endTransmission echo s).pending = s.pending := by
  unfold endTransmission
  dsimp only
  repeat' split
  all_goals simp

end Sys2Proof.Machine
end

