-- ==== Sys2Proof/Laws/Host.lean ====
section
/-! SUPPORT. Frames: for the operations of Machine/HostCommands.lean, the blocks each leaves as they were. -/

namespace Sys2Proof.Machine

/-- What `respond` leaves unchanged. -/
@[simp] theorem respond_frame (code : Byte) (result : ResultCode) (payload : State → List Byte) (read : Option NoticeRead) (s : State) :
    (respond code result payload read s).held = s.held ∧ (respond code result payload read s).now = s.now ∧
      (respond code result payload read s).cfg = s.cfg ∧ (respond code result payload read s).jt = s.jt ∧
      (respond code result payload read s).pt = s.pt ∧ (respond code result payload read s).vr = s.vr ∧
      (respond code result payload read s).flc = s.flc ∧
      (respond code result payload read s).decisionPending = s.decisionPending ∧
      (respond code result payload read s).cu = s.cu ∧ (respond code result payload read s).hu = s.hu ∧
      (respond code result payload read s).pbc = s.pbc ∧ (respond code result payload read s).pending = s.pending := by
  simp [respond]

/-- What `answer` leaves unchanged. -/
@[simp] theorem answer_frame (code : Byte) (result : ResultCode) (payload : State → List Byte) (s : State) :
    (answer code result payload s).held = s.held ∧ (answer code result payload s).now = s.now ∧
      (answer code result payload s).cfg = s.cfg ∧ (answer code result payload s).jt = s.jt ∧
      (answer code result payload s).pt = s.pt ∧ (answer code result payload s).vr = s.vr ∧
      (answer code result payload s).flc = s.flc ∧
      (answer code result payload s).decisionPending = s.decisionPending ∧
      (answer code result payload s).cu = s.cu ∧ (answer code result payload s).hu = s.hu ∧
      (answer code result payload s).pbc = s.pbc ∧ (answer code result payload s).pending = s.pending := by
  simp [answer]

/-- What `reply` leaves unchanged. -/
@[simp] theorem reply_frame (code : Byte) (result : ResultCode) (s : State) :
    (reply code result s).held = s.held ∧ (reply code result s).now = s.now ∧ (reply code result s).cfg = s.cfg ∧
      (reply code result s).jt = s.jt ∧ (reply code result s).pt = s.pt ∧ (reply code result s).vr = s.vr ∧
      (reply code result s).flc = s.flc ∧ (reply code result s).decisionPending = s.decisionPending ∧
      (reply code result s).cu = s.cu ∧ (reply code result s).hu = s.hu ∧ (reply code result s).pbc = s.pbc ∧
      (reply code result s).pending = s.pending := by
  simp [reply]

/-- What `admitJob` leaves unchanged. -/
@[simp] theorem admit_frame (j : Job) (s : State) :
    (admitJob j s).held = s.held ∧ (admitJob j s).now = s.now ∧ (admitJob j s).cfg = s.cfg ∧
      (admitJob j s).cpc = s.cpc ∧ (admitJob j s).pt = s.pt ∧ (admitJob j s).vr = s.vr ∧
      (admitJob j s).flc = s.flc ∧ (admitJob j s).hu = s.hu ∧ (admitJob j s).pbc = s.pbc ∧
      (admitJob j s).pending = s.pending := by
  simp [admitJob]

/-- What `submit` leaves unchanged. -/
@[simp] theorem submit_frame (r : SubmitRecord) (s : State) :
    (submit r s).held = s.held ∧ (submit r s).now = s.now ∧ (submit r s).cfg = s.cfg ∧ (submit r s).pt = s.pt ∧
      (submit r s).vr = s.vr ∧ (submit r s).pbc = s.pbc ∧ (submit r s).pending = s.pending := by
  unfold submit
  repeat' split
  all_goals simp

/-- What `cancelAssigned` leaves unchanged. -/
@[simp] theorem cancelAssigned_frame (j : Job) (notice : NoticeBody) (s : State) :
    (cancelAssigned j notice s).held = s.held ∧ (cancelAssigned j notice s).now = s.now ∧
      (cancelAssigned j notice s).cfg = s.cfg ∧ (cancelAssigned j notice s).hu = s.hu ∧
      (cancelAssigned j notice s).pbc = s.pbc ∧ (cancelAssigned j notice s).pending = s.pending := by
  unfold cancelAssigned
  repeat' split
  all_goals simp

/-- What `cancelJob` leaves unchanged. -/
@[simp] theorem cancelJob_frame (j : Job) (s : State) :
    (cancelJob j s).held = s.held ∧ (cancelJob j s).now = s.now ∧ (cancelJob j s).cfg = s.cfg ∧
      (cancelJob j s).hu = s.hu ∧ (cancelJob j s).pending = s.pending := by
  unfold cancelJob
  repeat' split
  all_goals simp

/-- What `cancel` leaves unchanged. -/
@[simp] theorem cancel_frame (tag : Half) (s : State) :
    (cancel tag s).held = s.held ∧ (cancel tag s).now = s.now ∧ (cancel tag s).cfg = s.cfg ∧
      (cancel tag s).pending = s.pending := by
  unfold cancel
  repeat' split
  all_goals simp

/-- What `endWaitWithLoad` leaves unchanged. -/
@[simp] theorem endWaitWithLoad_frame (tag : Nat) (s : State) :
    (endWaitWithLoad s tag).held = s.held ∧ (endWaitWithLoad s tag).now = s.now ∧
      (endWaitWithLoad s tag).cfg = s.cfg ∧ (endWaitWithLoad s tag).cpc = s.cpc ∧
      (endWaitWithLoad s tag).decisionPending = s.decisionPending ∧ (endWaitWithLoad s tag).cu = s.cu ∧
      (endWaitWithLoad s tag).hu = s.hu ∧ (endWaitWithLoad s tag).pbc = s.pbc ∧
      (endWaitWithLoad s tag).pending = s.pending := by
  unfold endWaitWithLoad
  repeat' split
  all_goals simp

/-- What `resumePaused` leaves unchanged. -/
@[simp] theorem resumePaused_frame (p : Nat) (s : State) :
    (resumePaused p s).held = s.held ∧ (resumePaused p s).now = s.now ∧ (resumePaused p s).cfg = s.cfg ∧
      (resumePaused p s).cpc = s.cpc ∧ (resumePaused p s).pt = s.pt ∧ (resumePaused p s).vr = s.vr ∧
      (resumePaused p s).flc = s.flc ∧ (resumePaused p s).decisionPending = s.decisionPending ∧
      (resumePaused p s).cu = s.cu ∧ (resumePaused p s).hu = s.hu ∧ (resumePaused p s).pbc = s.pbc ∧
      (resumePaused p s).pending = s.pending := by
  simp [resumePaused]

/-- What `portReady` leaves unchanged. -/
@[simp] theorem portReady_frame (p : Nat) (s : State) :
    (portReady p s).held = s.held ∧ (portReady p s).now = s.now ∧ (portReady p s).cfg = s.cfg ∧
      (portReady p s).cpc = s.cpc ∧ (portReady p s).cu = s.cu ∧ (portReady p s).hu = s.hu ∧
      (portReady p s).pbc = s.pbc ∧ (portReady p s).pending = s.pending := by
  unfold portReady
  simp only [wake_frame, resumePaused_frame]
  refine ⟨(foldl_keeps State.held _ (by simp) _ _).trans ?_,
    (foldl_keeps State.now _ (by simp) _ _).trans ?_,
    (foldl_keeps State.cfg _ (by simp) _ _).trans ?_,
    (foldl_keeps State.cpc _ (by simp) _ _).trans ?_,
    (foldl_keeps State.cu _ (by simp) _ _).trans ?_,
    (foldl_keeps State.hu _ (by simp) _ _).trans ?_,
    (foldl_keeps State.pbc _ (by simp) _ _).trans ?_,
    (foldl_keeps State.pending _ (by simp) _ _).trans ?_⟩ <;> simp

/-- What `setReady` leaves unchanged. -/
@[simp] theorem setReady_frame (p : Nat) (ready : Bool) (s : State) :
    (setReady p ready s).held = s.held ∧ (setReady p ready s).now = s.now ∧ (setReady p ready s).cfg = s.cfg ∧
      (setReady p ready s).cpc = s.cpc ∧ (setReady p ready s).cu = s.cu ∧ (setReady p ready s).hu = s.hu ∧
      (setReady p ready s).pbc = s.pbc ∧ (setReady p ready s).pending = s.pending := by
  unfold setReady
  repeat' split
  all_goals simp

/-- What `portChange` leaves unchanged. -/
@[simp] theorem portChange_frame (p : Nat) (ready occupied : Byte) (s : State) :
    (portChange p ready occupied s).held = s.held ∧ (portChange p ready occupied s).now = s.now ∧
      (portChange p ready occupied s).cfg = s.cfg ∧ (portChange p ready occupied s).cpc = s.cpc ∧
      (portChange p ready occupied s).cu = s.cu ∧ (portChange p ready occupied s).hu = s.hu ∧
      (portChange p ready occupied s).pbc = s.pbc ∧ (portChange p ready occupied s).pending = s.pending := by
  unfold portChange
  repeat' split
  all_goals simp

/-- What `portSet` leaves unchanged. -/
@[simp] theorem portSet_frame (port ready occupied : Byte) (s : State) :
    (portSet port ready occupied s).held = s.held ∧ (portSet port ready occupied s).now = s.now ∧
      (portSet port ready occupied s).cfg = s.cfg ∧ (portSet port ready occupied s).pbc = s.pbc ∧
      (portSet port ready occupied s).pending = s.pending := by
  unfold portSet
  dsimp only
  repeat' split
  all_goals simp

/-- What `vehicleRemove` leaves unchanged. -/
@[simp] theorem vehicleRemove_frame (v : Half) (s : State) :
    (vehicleRemove v s).held = s.held ∧ (vehicleRemove v s).now = s.now ∧ (vehicleRemove v s).cfg = s.cfg ∧
      (vehicleRemove v s).jt = s.jt ∧ (vehicleRemove v s).pt = s.pt ∧
      (vehicleRemove v s).decisionPending = s.decisionPending ∧ (vehicleRemove v s).pbc = s.pbc ∧
      (vehicleRemove v s).pending = s.pending := by
  unfold vehicleRemove
  repeat' split
  all_goals simp

/-- What `jobRead` leaves unchanged. -/
@[simp] theorem jobRead_frame (tag : Half) (s : State) :
    (jobRead tag s).held = s.held ∧ (jobRead tag s).now = s.now ∧ (jobRead tag s).cfg = s.cfg ∧
      (jobRead tag s).jt = s.jt ∧ (jobRead tag s).pt = s.pt ∧ (jobRead tag s).vr = s.vr ∧
      (jobRead tag s).flc = s.flc ∧ (jobRead tag s).decisionPending = s.decisionPending ∧
      (jobRead tag s).cu = s.cu ∧ (jobRead tag s).hu = s.hu ∧ (jobRead tag s).pbc = s.pbc ∧
      (jobRead tag s).pending = s.pending := by
  simp [jobRead]

/-- What `vehicleRead` leaves unchanged. -/
@[simp] theorem vehicleRead_frame (v : Half) (s : State) :
    (vehicleRead v s).held = s.held ∧ (vehicleRead v s).now = s.now ∧ (vehicleRead v s).cfg = s.cfg ∧
      (vehicleRead v s).jt = s.jt ∧ (vehicleRead v s).pt = s.pt ∧ (vehicleRead v s).vr = s.vr ∧
      (vehicleRead v s).flc = s.flc ∧ (vehicleRead v s).decisionPending = s.decisionPending ∧
      (vehicleRead v s).cu = s.cu ∧ (vehicleRead v s).hu = s.hu ∧ (vehicleRead v s).pbc = s.pbc ∧
      (vehicleRead v s).pending = s.pending := by
  simp [vehicleRead]

/-- What `peerRead` leaves unchanged. -/
@[simp] theorem peerRead_frame (st : Byte) (s : State) :
    (peerRead st s).held = s.held ∧ (peerRead st s).now = s.now ∧ (peerRead st s).cfg = s.cfg ∧
      (peerRead st s).jt = s.jt ∧ (peerRead st s).pt = s.pt ∧ (peerRead st s).vr = s.vr ∧
      (peerRead st s).flc = s.flc ∧ (peerRead st s).decisionPending = s.decisionPending ∧
      (peerRead st s).cu = s.cu ∧ (peerRead st s).hu = s.hu ∧ (peerRead st s).pbc = s.pbc ∧
      (peerRead st s).pending = s.pending := by
  unfold peerRead
  repeat' split
  all_goals simp

/-- What `noticeRead` leaves unchanged. -/
@[simp] theorem noticeRead_frame (s : State) :
    (noticeRead s).held = s.held ∧ (noticeRead s).now = s.now ∧ (noticeRead s).cfg = s.cfg ∧
      (noticeRead s).jt = s.jt ∧ (noticeRead s).pt = s.pt ∧ (noticeRead s).vr = s.vr ∧ (noticeRead s).flc = s.flc ∧
      (noticeRead s).decisionPending = s.decisionPending ∧ (noticeRead s).cu = s.cu ∧ (noticeRead s).hu = s.hu ∧
      (noticeRead s).pbc = s.pbc ∧ (noticeRead s).pending = s.pending := by
  simp [noticeRead]

/-- What `noticeComplete` leaves unchanged. -/
@[simp] theorem noticeComplete_frame (s : State) :
    (noticeComplete s).held = s.held ∧ (noticeComplete s).now = s.now ∧ (noticeComplete s).cfg = s.cfg ∧
      (noticeComplete s).jt = s.jt ∧ (noticeComplete s).pt = s.pt ∧ (noticeComplete s).vr = s.vr ∧
      (noticeComplete s).flc = s.flc ∧ (noticeComplete s).decisionPending = s.decisionPending ∧
      (noticeComplete s).cu = s.cu ∧ (noticeComplete s).hu = s.hu ∧ (noticeComplete s).pbc = s.pbc ∧
      (noticeComplete s).pending = s.pending := by
  simp [noticeComplete]

/-- What `statusRead` leaves unchanged. -/
@[simp] theorem statusRead_frame (s : State) :
    (statusRead s).held = s.held ∧ (statusRead s).now = s.now ∧ (statusRead s).cfg = s.cfg ∧
      (statusRead s).jt = s.jt ∧ (statusRead s).pt = s.pt ∧ (statusRead s).vr = s.vr ∧ (statusRead s).flc = s.flc ∧
      (statusRead s).decisionPending = s.decisionPending ∧ (statusRead s).cu = s.cu ∧ (statusRead s).hu = s.hu ∧
      (statusRead s).pbc = s.pbc ∧ (statusRead s).pending = s.pending := by
  simp [statusRead]

/-- What `uncheck` leaves unchanged. -/
@[simp] theorem uncheck_frame (s : State) :
    (uncheck s).held = s.held ∧ (uncheck s).now = s.now ∧ (uncheck s).cfg = s.cfg ∧ (uncheck s).jt = s.jt ∧
      (uncheck s).pt = s.pt ∧ (uncheck s).vr = s.vr ∧ (uncheck s).flc = s.flc ∧
      (uncheck s).decisionPending = s.decisionPending ∧ (uncheck s).cu = s.cu ∧ (uncheck s).hu = s.hu ∧
      (uncheck s).pbc = s.pbc ∧ (uncheck s).pending = s.pending := by
  simp [uncheck]

/-- What `storeItem` leaves unchanged. -/
@[simp] theorem storeItem_frame (item index v : Nat) (s : State) :
    (storeItem item index v s).held = s.held ∧ (storeItem item index v s).now = s.now ∧
      (storeItem item index v s).cpc = s.cpc ∧ (storeItem item index v s).jt = s.jt ∧
      (storeItem item index v s).vr = s.vr ∧ (storeItem item index v s).flc = s.flc ∧
      (storeItem item index v s).decisionPending = s.decisionPending ∧ (storeItem item index v s).cu = s.cu ∧
      (storeItem item index v s).hu = s.hu ∧ (storeItem item index v s).pbc = s.pbc ∧
      (storeItem item index v s).pending = s.pending := by
  unfold storeItem
  repeat' split
  all_goals simp

/-- What `cfgWrite` leaves unchanged. -/
@[simp] theorem cfgWrite_frame (item index : Byte) (value : BitVec 32) (s : State) :
    (cfgWrite item index value s).held = s.held ∧ (cfgWrite item index value s).now = s.now ∧
      (cfgWrite item index value s).jt = s.jt ∧ (cfgWrite item index value s).vr = s.vr ∧
      (cfgWrite item index value s).flc = s.flc ∧
      (cfgWrite item index value s).decisionPending = s.decisionPending ∧ (cfgWrite item index value s).cu = s.cu ∧
      (cfgWrite item index value s).hu = s.hu ∧ (cfgWrite item index value s).pbc = s.pbc ∧
      (cfgWrite item index value s).pending = s.pending := by
  unfold cfgWrite
  repeat' split
  all_goals simp

/-- What `cfgCheck` leaves unchanged. -/
@[simp] theorem cfgCheck_frame (s : State) :
    (cfgCheck s).held = s.held ∧ (cfgCheck s).now = s.now ∧ (cfgCheck s).cfg = s.cfg ∧ (cfgCheck s).jt = s.jt ∧
      (cfgCheck s).pt = s.pt ∧ (cfgCheck s).vr = s.vr ∧ (cfgCheck s).flc = s.flc ∧
      (cfgCheck s).decisionPending = s.decisionPending ∧ (cfgCheck s).cu = s.cu ∧ (cfgCheck s).hu = s.hu ∧
      (cfgCheck s).pbc = s.pbc ∧ (cfgCheck s).pending = s.pending := by
  unfold cfgCheck
  repeat' split
  all_goals simp

/-- What `startCommand` leaves unchanged. -/
@[simp] theorem startCommand_frame (s : State) :
    (startCommand s).held = s.held ∧ (startCommand s).now = s.now ∧ (startCommand s).cfg = s.cfg ∧
      (startCommand s).vr = s.vr ∧ (startCommand s).pending = s.pending := by
  unfold startCommand
  repeat' split
  all_goals simp

/-- What `stopCommand` leaves unchanged. -/
@[simp] theorem stopCommand_frame (s : State) :
    (stopCommand s).held = s.held ∧ (stopCommand s).now = s.now ∧ (stopCommand s).cfg = s.cfg ∧
      (stopCommand s).pending = s.pending := by
  unfold stopCommand
  repeat' split
  all_goals simp

/-- What `isolateCommand` leaves unchanged. -/
@[simp] theorem isolateCommand_frame (s : State) :
    (isolateCommand s).held = s.held ∧ (isolateCommand s).now = s.now ∧ (isolateCommand s).cfg = s.cfg ∧
      (isolateCommand s).pending = s.pending := by
  unfold isolateCommand
  repeat' split
  all_goals simp

/-- What `resumeCommand` leaves unchanged. -/
@[simp] theorem resumeCommand_frame (s : State) :
    (resumeCommand s).held = s.held ∧ (resumeCommand s).now = s.now ∧ (resumeCommand s).cfg = s.cfg ∧
      (resumeCommand s).pt = s.pt ∧ (resumeCommand s).vr = s.vr ∧ (resumeCommand s).pending = s.pending := by
  unfold resumeCommand
  repeat' split
  all_goals simp

/-- What `unknownCode` leaves unchanged. -/
@[simp] theorem unknownCode_frame (code : Byte) (s : State) :
    (unknownCode code s).held = s.held ∧ (unknownCode code s).now = s.now ∧ (unknownCode code s).cfg = s.cfg ∧
      (unknownCode code s).jt = s.jt ∧ (unknownCode code s).pt = s.pt ∧ (unknownCode code s).vr = s.vr ∧
      (unknownCode code s).flc = s.flc ∧ (unknownCode code s).decisionPending = s.decisionPending ∧
      (unknownCode code s).cu = s.cu ∧ (unknownCode code s).hu = s.hu ∧ (unknownCode code s).pbc = s.pbc ∧
      (unknownCode code s).pending = s.pending := by
  unfold unknownCode
  repeat' split
  all_goals simp

/-- What `selectReleased` leaves unchanged. -/
@[simp] theorem selectReleased_frame (bytes : List Byte) (s : State) :
    (selectReleased bytes s).held = s.held ∧ (selectReleased bytes s).now = s.now ∧
      (selectReleased bytes s).cfg = s.cfg ∧ (selectReleased bytes s).jt = s.jt ∧
      (selectReleased bytes s).pt = s.pt ∧ (selectReleased bytes s).vr = s.vr ∧
      (selectReleased bytes s).flc = s.flc ∧ (selectReleased bytes s).decisionPending = s.decisionPending ∧
      (selectReleased bytes s).cu = s.cu ∧ (selectReleased bytes s).hu = s.hu ∧
      (selectReleased bytes s).pbc = s.pbc ∧ (selectReleased bytes s).pending = s.pending := by
  simp [selectReleased]

end Sys2Proof.Machine
end

