-- ==== Sys2Proof/Laws/Lookup.lean ====
section
/-! SUPPORT. Reading after writing: what each lookup finds after the one-record updates; what the end of a step does
where nothing is owed; and a frame requested with room in the transmit queue. Proofs cite these and unfold neither
side. -/

namespace Sys2Proof.Machine

/-! ### Lists -/

theorem find?_map_key {α κ : Type} [BEq κ] (key : α → κ) (f : α → α) (k : κ) (h : ∀ a, key (f a) = key a) (l : List α) :
    (l.map f).find? (fun a => key a == k) = (l.find? fun a => key a == k).map f := by
  induction l with
  | nil => rfl
  | cons a l ih => by_cases hk : (key a == k) = true <;> simp [h, hk, ih]

theorem find?_filter_ne {α : Type} (key : α → Nat) (k : Nat) (l : List α) :
    (l.filter fun a => key a ≠ k).find? (fun a => key a == k) = none := by simp

theorem find?_filter_other {α : Type} (key : α → Nat) (k m : Nat) (h : m ≠ k) (l : List α) :
    (l.filter fun a => key a ≠ k).find? (fun a => key a == m) = l.find? fun a => key a == m := by
  induction l with
  | nil => rfl
  | cons a l ih =>
    by_cases hk : key a = k
    · simp_all [Ne.symm h]
    · by_cases hm : key a = m <;> simp_all

theorem mem_insertBy {α : Type} (le : α → α → Bool) (x y : α) (l : List α) : y ∈ insertBy le x l ↔ y = x ∨ y ∈ l := by
  induction l with
  | nil => simp [insertBy]
  | cons a l ih => by_cases h : le x a = true <;> simp [insertBy, h, ih]; tauto

theorem length_insertBy {α : Type} (le : α → α → Bool) (x : α) (l : List α) : (insertBy le x l).length = l.length + 1 := by
  induction l with
  | nil => rfl
  | cons a l ih => by_cases h : le x a = true <;> simp [insertBy, h, ih]

/-! ### Jobs, vehicles, ports, peers -/

/-- A job looked up after one record is changed, its tag kept. -/
theorem findJob_modifyJob (k tag : Nat) (f : Job → Job) (h : ∀ j, (f j).tag = j.tag) (s : State) :
    findJob k (modifyJob tag f s) = (findJob k s).map fun j => if j.tag = tag then f j else j :=
  find?_map_key Job.tag _ k (fun j => by by_cases hj : j.tag = tag <;> simp [hj, h]) s.jt.jobs

theorem findJob_tag {k : Nat} {s : State} {j : Job} (h : findJob k s = some j) : j.tag = k := by
  simpa using List.find?_some h

/-- A record looked up after one record is changed, its vehicle number kept. -/
theorem findVehicle_modifyVehicle (k v : Nat) (f : Vehicle → Vehicle) (h : ∀ r, (f r).vehicle = r.vehicle) (s : State) :
    findVehicle k (modifyVehicle v f s) = (findVehicle k s).map fun r => if r.vehicle = v then f r else r :=
  find?_map_key Vehicle.vehicle _ k (fun r => by by_cases hr : r.vehicle = v <;> simp [hr, h]) s.vr.records

theorem findVehicle_vehicle {k : Nat} {s : State} {r : Vehicle} (h : findVehicle k s = some r) : r.vehicle = k := by
  simpa using List.find?_some h

@[simp] theorem findVehicle_removeVehicle (v : Nat) (s : State) : findVehicle v (removeVehicle v s) = none :=
  find?_filter_ne Vehicle.vehicle v s.vr.records

theorem findVehicle_removeVehicle_other (v k : Nat) (h : k ≠ v) (s : State) :
    findVehicle k (removeVehicle v s) = findVehicle k s :=
  find?_filter_other Vehicle.vehicle v k h s.vr.records

@[simp] theorem getPort_modifyPort (p : Nat) (f : Port → Port) (hp : p < 48) (s : State) :
    getPort p (modifyPort p f s) = f (getPort p s) := by
  simp [getPort, modifyPort, Vector.getD, hp]

theorem getPort_modifyPort_other (p q : Nat) (f : Port → Port) (h : q ≠ p) (s : State) :
    getPort q (modifyPort p f s) = getPort q s := by
  by_cases hq : q < 48
  · simp [getPort, modifyPort, Vector.getD, hq, Ne.symm h]
  · simp [getPort, Vector.getD, hq]

@[simp] theorem getPeer_modifyPeer (st : Nat) (f : Peer → Peer) (h : st < 32) (s : State) :
    getPeer st (modifyPeer st f s) = f (getPeer st s) := by
  simp [getPeer, modifyPeer, Vector.getD, h]

theorem getPeer_modifyPeer_other (st k : Nat) (f : Peer → Peer) (h : k ≠ st) (s : State) :
    getPeer k (modifyPeer st f s) = getPeer k s := by
  by_cases hk : k < 32
  · simp [getPeer, modifyPeer, Vector.getD, hk, Ne.symm h]
  · simp [getPeer, Vector.getD, hk]

/-- An ask list entry looked up after one entry is changed, its tag kept. -/
theorem findAsk_modifyAsk (k tag : Nat) (f : AskEntry → AskEntry) (h : ∀ e, (f e).tag = e.tag) (s : State) :
    findAsk k (modifyAsk tag f s) = (findAsk k s).map fun e => if e.tag = tag then f e else e :=
  find?_map_key AskEntry.tag _ k (fun e => by by_cases he : e.tag = tag <;> simp [he, h]) s.hu.askList

/-! ### The end of a step -/

/-- With no notice raised and at most 32 queued, the notices stay as they are. -/
theorem joinNotices_of_none (s : State) (h : s.cpc.raised = []) (hn : s.cpc.notices.length ≤ 32) : joinNotices s = s := by
  have hf : ¬ Config.noticeSlots < s.cpc.notices.length := by simp [Config.noticeSlots]; omega
  have ht : s.cpc.notices.take Config.noticeSlots = s.cpc.notices := List.take_of_length_le (by simpa [Config.noticeSlots])
  simp [joinNotices, State.onCpc, h, sortBy, ht, hf]
  rw [← h]

/-- LEAVE is owed to no head that may not leave, has been sent it, or names no record. -/
theorem leaveHead_of_settled (s : State)
    (h : ∀ e ∈ s.hu.exitQueue.take 1, e.mayLeave = true → (findVehicle e.vehicle s).isSome = true → e.leaveSent = true) :
    leaveHead s = s := by
  unfold leaveHead
  cases hq : s.hu.exitQueue with
  | nil => rfl
  | cons e q =>
    have := h e (by simp [hq])
    by_cases hm : e.mayLeave = true <;> by_cases hs : e.leaveSent = true <;> simp_all

/-- No round opens where none is owed. -/
theorem roundTest_of_settled (s : State)
    (h : s.cpc.level = .run → 0 < spare s → (∃ e ∈ s.cu.incoming, e.pledge = none) → s.cu.reclaimDeadline.isSome = true) :
    roundTest s = s := by
  unfold roundTest
  split
  · next hc =>
    simp only [Bool.and_eq_true, beq_iff_eq, decide_eq_true_eq, List.any_eq_true, Option.isNone_iff_eq_none] at hc
    have := h hc.1.1.1 hc.1.2 hc.2
    simp [hc.1.1.2] at this
  · rfl

/-- A settled state is the end of its step. -/
theorem finish_of_settled (s : State) (h : Settled s) : finish s = s := by
  obtain ⟨hr, hn, hl, ho⟩ := h
  rw [finish, leaveHead_of_settled s hl, roundTest_of_settled s ho, joinNotices_of_none s hr hn]

/-! ### The reset pin -/

@[simp] theorem whenReleased_of_released (f : State → State) (s : State) (h : s.held = false) :
    whenReleased f s = .next (f s) := by simp [whenReleased, h]

@[simp] theorem whenReleased_of_held (f : State → State) (s : State) (h : s.held = true) :
    whenReleased f s = .next s := by simp [whenReleased, h]

/-! ### The transmit queue -/

/-- Outside ISOLATED, with room in the queue and no BEACON to replace, a frame joins at its place. -/
theorem requestFrame_of_room (target : Byte) (p : Payload) (s : State) (hl : s.cpc.level ≠ .isolated)
    (hb : p.rank ≠ 3) (hq : s.pbc.txQueue.length < 8) :
    requestFrame target p s = setQueue (joinBehind { target := target, payload := p } s.pbc.txQueue) s := by
  have h8 : s.pbc.txQueue.length < Config.txSlots := hq
  have hr : (p.rank == 3) = false := by simpa using hb
  rw [← queueNew_of_other { target := target, payload := p } _ s hr]
  simp only [requestFrame, requestFrameWithin, placeFrame, hl, TxFrame.isBeacon, hr, h8, Bool.false_and, if_false,
    if_true]
  rfl

/-- In ISOLATED a frame requested is discarded, and only the Call Unit may hear of it. -/
theorem placeFrame_of_isolated (f : TxFrame) (s : State) (hl : s.cpc.level = .isolated) :
    placeFrame f s = (s, some f) := by simp [placeFrame, hl]

end Sys2Proof.Machine
end

