-- ==== Sys2Proof/Laws/Reports.lean ====
section
/-! SUPPORT. Frames: for the operations of Machine/Reports.lean, the blocks each leaves as they were. -/

namespace Sys2Proof.Machine

/-- What `endTakenOf` leaves unchanged. -/
@[simp] theorem endTakenOf_frame (ref : InboundRef) (v : Nat) (s : State) :
    (endTakenOf ref v s).held = s.held ∧ (endTakenOf ref v s).now = s.now ∧ (endTakenOf ref v s).cfg = s.cfg ∧
      (endTakenOf ref v s).cpc = s.cpc ∧ (endTakenOf ref v s).jt = s.jt ∧ (endTakenOf ref v s).pt = s.pt ∧
      (endTakenOf ref v s).vr = s.vr ∧ (endTakenOf ref v s).flc = s.flc ∧ (endTakenOf ref v s).hu = s.hu ∧
      (endTakenOf ref v s).pbc = s.pbc ∧ (endTakenOf ref v s).pending = s.pending := by
  unfold endTakenOf
  repeat' split
  all_goals simp

/-- What `enterByKind` leaves unchanged. -/
@[simp] theorem enterByKind_frame (v : Nat) (r : Vehicle) (ref : InboundRef) (s : State) :
    (enterByKind v r ref s).held = s.held ∧ (enterByKind v r ref s).now = s.now ∧
      (enterByKind v r ref s).cfg = s.cfg ∧ (enterByKind v r ref s).cpc = s.cpc ∧
      (enterByKind v r ref s).pt = s.pt ∧ (enterByKind v r ref s).cu = s.cu ∧ (enterByKind v r ref s).hu = s.hu ∧
      (enterByKind v r ref s).pbc = s.pbc ∧ (enterByKind v r ref s).pending = s.pending := by
  unfold enterByKind
  dsimp only
  repeat' split
  all_goals simp

/-- What `enterVehicle` leaves unchanged. -/
@[simp] theorem enterVehicle_frame (v : Nat) (r : Vehicle) (i : Inbound) (position : Nat) (s : State) :
    (enterVehicle v r i position s).held = s.held ∧ (enterVehicle v r i position s).now = s.now ∧
      (enterVehicle v r i position s).cfg = s.cfg ∧ (enterVehicle v r i position s).cpc = s.cpc ∧
      (enterVehicle v r i position s).pt = s.pt ∧ (enterVehicle v r i position s).hu = s.hu ∧
      (enterVehicle v r i position s).pbc = s.pbc ∧ (enterVehicle v r i position s).pending = s.pending := by
  simp [enterVehicle]

/-- What `recoverVehicle` leaves unchanged. -/
@[simp] theorem recoverVehicle_frame (v : Nat) (s : State) :
    (recoverVehicle v s).held = s.held ∧ (recoverVehicle v s).now = s.now ∧ (recoverVehicle v s).cfg = s.cfg ∧
      (recoverVehicle v s).cpc = s.cpc ∧ (recoverVehicle v s).jt = s.jt ∧ (recoverVehicle v s).pt = s.pt ∧
      (recoverVehicle v s).flc = s.flc ∧ (recoverVehicle v s).cu = s.cu ∧ (recoverVehicle v s).hu = s.hu ∧
      (recoverVehicle v s).pbc = s.pbc ∧ (recoverVehicle v s).pending = s.pending := by
  simp [recoverVehicle]

/-- What `statusOwned` leaves unchanged. -/
@[simp] theorem statusOwned_frame (v : Nat) (r : Vehicle) (t : StatusView) (s : State) :
    (statusOwned v r t s).held = s.held ∧ (statusOwned v r t s).now = s.now ∧ (statusOwned v r t s).cfg = s.cfg ∧
      (statusOwned v r t s).pbc = s.pbc ∧ (statusOwned v r t s).pending = s.pending := by
  unfold statusOwned
  dsimp only
  repeat' split
  all_goals simp

/-- What `statusLost` leaves unchanged. -/
@[simp] theorem statusLost_frame (v : Nat) (r : Vehicle) (t : StatusView) (s : State) :
    (statusLost v r t s).held = s.held ∧ (statusLost v r t s).now = s.now ∧ (statusLost v r t s).cfg = s.cfg ∧
      (statusLost v r t s).pbc = s.pbc ∧ (statusLost v r t s).pending = s.pending := by
  unfold statusLost
  dsimp only
  repeat' split
  all_goals simp

/-- What `passVehicle` leaves unchanged. -/
@[simp] theorem passVehicle_frame (v : Nat) (s : State) :
    (passVehicle v s).held = s.held ∧ (passVehicle v s).now = s.now ∧ (passVehicle v s).cfg = s.cfg ∧
      (passVehicle v s).cpc = s.cpc ∧ (passVehicle v s).jt = s.jt ∧ (passVehicle v s).pt = s.pt ∧
      (passVehicle v s).decisionPending = s.decisionPending ∧ (passVehicle v s).cu = s.cu ∧
      (passVehicle v s).hu = s.hu ∧ (passVehicle v s).pbc = s.pbc ∧ (passVehicle v s).pending = s.pending := by
  simp [passVehicle]

/-- What `leavePassList` leaves unchanged. -/
@[simp] theorem leavePassList_frame (v : Nat) (s : State) :
    (leavePassList v s).held = s.held ∧ (leavePassList v s).now = s.now ∧ (leavePassList v s).cfg = s.cfg ∧
      (leavePassList v s).cpc = s.cpc ∧ (leavePassList v s).jt = s.jt ∧ (leavePassList v s).pt = s.pt ∧
      (leavePassList v s).flc = s.flc ∧ (leavePassList v s).decisionPending = s.decisionPending ∧
      (leavePassList v s).cu = s.cu ∧ (leavePassList v s).hu = s.hu ∧ (leavePassList v s).pbc = s.pbc ∧
      (leavePassList v s).pending = s.pending := by
  simp [leavePassList]

/-- What `adoptRecord` leaves unchanged. -/
@[simp] theorem adoptRecord_frame (v : Nat) (t : StatusView) (confirmed : Bool) (s : State) :
    (adoptRecord v t confirmed s).held = s.held ∧ (adoptRecord v t confirmed s).now = s.now ∧
      (adoptRecord v t confirmed s).cfg = s.cfg ∧ (adoptRecord v t confirmed s).cpc = s.cpc ∧
      (adoptRecord v t confirmed s).jt = s.jt ∧ (adoptRecord v t confirmed s).pt = s.pt ∧
      (adoptRecord v t confirmed s).flc = s.flc ∧
      (adoptRecord v t confirmed s).decisionPending = s.decisionPending ∧ (adoptRecord v t confirmed s).cu = s.cu ∧
      (adoptRecord v t confirmed s).hu = s.hu ∧ (adoptRecord v t confirmed s).pbc = s.pbc ∧
      (adoptRecord v t confirmed s).pending = s.pending := by
  simp [adoptRecord]

/-- What `strayJob` leaves unchanged. -/
@[simp] theorem strayJob_frame (v carrier : Nat) (s : State) :
    (((strayJob v carrier s).map (·.2)).getD s).held = s.held ∧
      (((strayJob v carrier s).map (·.2)).getD s).now = s.now ∧
      (((strayJob v carrier s).map (·.2)).getD s).cfg = s.cfg ∧
      (((strayJob v carrier s).map (·.2)).getD s).cpc = s.cpc ∧
      (((strayJob v carrier s).map (·.2)).getD s).vr = s.vr ∧
      (((strayJob v carrier s).map (·.2)).getD s).flc = s.flc ∧
      (((strayJob v carrier s).map (·.2)).getD s).cu = s.cu ∧
      (((strayJob v carrier s).map (·.2)).getD s).hu = s.hu ∧
      (((strayJob v carrier s).map (·.2)).getD s).pbc = s.pbc ∧
      (((strayJob v carrier s).map (·.2)).getD s).pending = s.pending := by
  unfold strayJob
  split <;> simp

/-- What `settleAdopted` leaves unchanged. -/
@[simp] theorem settleAdopted_frame (v : Nat) (t : StatusView) (s : State) :
    ((settleAdopted v t s).1).held = s.held ∧ ((settleAdopted v t s).1).now = s.now ∧
      ((settleAdopted v t s).1).cfg = s.cfg ∧ ((settleAdopted v t s).1).pbc = s.pbc ∧
      ((settleAdopted v t s).1).pending = s.pending := by
  unfold settleAdopted
  split
  · simp
  · split
    · simp
    · rename_i c _
      have h := strayJob_frame v c s
      split <;> simp_all

/-- What `statusUnknown` leaves unchanged. -/
@[simp] theorem statusUnknown_frame (v : Nat) (t : StatusView) (s : State) :
    (statusUnknown v t s).held = s.held ∧ (statusUnknown v t s).now = s.now ∧ (statusUnknown v t s).cfg = s.cfg ∧
      (statusUnknown v t s).pbc = s.pbc ∧ (statusUnknown v t s).pending = s.pending := by
  unfold statusUnknown
  dsimp only
  repeat' split
  all_goals simp

/-- What `statusAccepted` leaves unchanged. -/
@[simp] theorem statusAccepted_frame (v : Nat) (t : StatusView) (s : State) :
    (statusAccepted v t s).held = s.held ∧ (statusAccepted v t s).now = s.now ∧
      (statusAccepted v t s).cfg = s.cfg ∧ (statusAccepted v t s).pbc = s.pbc ∧
      (statusAccepted v t s).pending = s.pending := by
  unfold statusAccepted
  dsimp only
  repeat' split
  all_goals simp

/-- What `statusTimeout` leaves unchanged. -/
@[simp] theorem statusTimeout_frame (v : Nat) (s : State) :
    (statusTimeout v s).held = s.held ∧ (statusTimeout v s).now = s.now ∧ (statusTimeout v s).cfg = s.cfg ∧
      (statusTimeout v s).pbc = s.pbc ∧ (statusTimeout v s).pending = s.pending := by
  unfold statusTimeout
  repeat' split
  all_goals simp

/-- What `lostHoldEnd` leaves unchanged. -/
@[simp] theorem lostHoldEnd_frame (v : Nat) (s : State) :
    (lostHoldEnd v s).held = s.held ∧ (lostHoldEnd v s).now = s.now ∧ (lostHoldEnd v s).cfg = s.cfg ∧
      (lostHoldEnd v s).jt = s.jt ∧ (lostHoldEnd v s).pt = s.pt ∧ (lostHoldEnd v s).flc = s.flc ∧
      (lostHoldEnd v s).decisionPending = s.decisionPending ∧ (lostHoldEnd v s).cu = s.cu ∧
      (lostHoldEnd v s).hu = s.hu ∧ (lostHoldEnd v s).pbc = s.pbc ∧ (lostHoldEnd v s).pending = s.pending := by
  unfold lostHoldEnd
  repeat' split
  all_goals simp

/-- What `parkDelayEnd` leaves unchanged. -/
@[simp] theorem parkDelayEnd_frame (v : Nat) (s : State) :
    (parkDelayEnd v s).held = s.held ∧ (parkDelayEnd v s).now = s.now ∧ (parkDelayEnd v s).cfg = s.cfg ∧
      (parkDelayEnd v s).cpc = s.cpc ∧ (parkDelayEnd v s).jt = s.jt ∧ (parkDelayEnd v s).pt = s.pt ∧
      (parkDelayEnd v s).decisionPending = s.decisionPending ∧ (parkDelayEnd v s).cu = s.cu ∧
      (parkDelayEnd v s).hu = s.hu ∧ (parkDelayEnd v s).pbc = s.pbc ∧ (parkDelayEnd v s).pending = s.pending := by
  unfold parkDelayEnd
  repeat' split
  all_goals simp

/-- What `passListEnd` leaves unchanged. -/
@[simp] theorem passListEnd_frame (v : Nat) (s : State) :
    (passListEnd v s).held = s.held ∧ (passListEnd v s).now = s.now ∧ (passListEnd v s).cfg = s.cfg ∧
      (passListEnd v s).cpc = s.cpc ∧ (passListEnd v s).jt = s.jt ∧ (passListEnd v s).pt = s.pt ∧
      (passListEnd v s).flc = s.flc ∧ (passListEnd v s).decisionPending = s.decisionPending ∧
      (passListEnd v s).cu = s.cu ∧ (passListEnd v s).hu = s.hu ∧ (passListEnd v s).pbc = s.pbc ∧
      (passListEnd v s).pending = s.pending := by
  simp [passListEnd]

/-- What `statusReport` leaves unchanged. -/
@[simp] theorem statusReport_frame (v : Half) (r : StatusReport) (s : State) :
    (statusReport v r s).held = s.held ∧ (statusReport v r s).now = s.now ∧ (statusReport v r s).cfg = s.cfg ∧
      (statusReport v r s).pbc = s.pbc ∧ (statusReport v r s).pending = s.pending := by
  unfold statusReport
  repeat' split
  all_goals simp

/-- What `entryReport` leaves unchanged. -/
@[simp] theorem entryReport_frame (v : Half) (s : State) :
    (entryReport v s).held = s.held ∧ (entryReport v s).now = s.now ∧ (entryReport v s).cfg = s.cfg ∧
      (entryReport v s).cpc = s.cpc ∧ (entryReport v s).pt = s.pt ∧ (entryReport v s).hu = s.hu ∧
      (entryReport v s).pbc = s.pbc ∧ (entryReport v s).pending = s.pending := by
  unfold entryReport
  repeat' split
  all_goals simp

/-- What `exitReport` leaves unchanged. -/
@[simp] theorem exitReport_frame (v : Half) (s : State) :
    (exitReport v s).held = s.held ∧ (exitReport v s).now = s.now ∧ (exitReport v s).cfg = s.cfg ∧
      (exitReport v s).pending = s.pending := by
  unfold exitReport
  dsimp only
  repeat' split
  all_goals simp

/-- What `feederBytes` leaves unchanged. -/
@[simp] theorem feederBytes_frame (bytes : List Byte) (s : State) :
    (feederBytes bytes s).held = s.held ∧ (feederBytes bytes s).now = s.now ∧ (feederBytes bytes s).cfg = s.cfg ∧
      (feederBytes bytes s).pending = s.pending := by
  unfold feederBytes
  repeat' split
  all_goals simp

end Sys2Proof.Machine
end

