-- ==== Sys2Proof/Laws/Timers.lean ====
section
/-! SUPPORT. Frames: for the operations of Machine/Timers.lean, the blocks each leaves as they were. -/

namespace Sys2Proof.Machine

/-- What `portWaitEnd` leaves unchanged. -/
@[simp] theorem portWaitEnd_frame (tag : Nat) (s : State) :
    (portWaitEnd tag s).held = s.held ∧ (portWaitEnd tag s).now = s.now ∧ (portWaitEnd tag s).cfg = s.cfg ∧
      (portWaitEnd tag s).cpc = s.cpc ∧ (portWaitEnd tag s).cu = s.cu ∧ (portWaitEnd tag s).hu = s.hu ∧
      (portWaitEnd tag s).pbc = s.pbc ∧ (portWaitEnd tag s).pending = s.pending := by
  unfold portWaitEnd
  dsimp only
  repeat' split
  all_goals simp

/-- What `agingEnd` leaves unchanged. -/
@[simp] theorem agingEnd_frame (s : State) :
    (agingEnd s).held = s.held ∧ (agingEnd s).now = s.now ∧ (agingEnd s).cfg = s.cfg ∧ (agingEnd s).cpc = s.cpc ∧
      (agingEnd s).pt = s.pt ∧ (agingEnd s).vr = s.vr ∧ (agingEnd s).flc = s.flc ∧ (agingEnd s).cu = s.cu ∧
      (agingEnd s).hu = s.hu ∧ (agingEnd s).pbc = s.pbc ∧ (agingEnd s).pending = s.pending := by
  unfold agingEnd
  dsimp only
  repeat' split
  all_goals simp

/-- What `quietEnd` leaves unchanged. -/
@[simp] theorem quietEnd_frame (s : State) :
    (quietEnd s).held = s.held ∧ (quietEnd s).now = s.now ∧ (quietEnd s).cfg = s.cfg ∧ (quietEnd s).cpc = s.cpc ∧
      (quietEnd s).jt = s.jt ∧ (quietEnd s).pt = s.pt ∧ (quietEnd s).vr = s.vr ∧ (quietEnd s).flc = s.flc ∧
      (quietEnd s).decisionPending = s.decisionPending ∧ (quietEnd s).hu = s.hu ∧ (quietEnd s).pbc = s.pbc ∧
      (quietEnd s).pending = s.pending := by
  unfold quietEnd
  repeat' split
  all_goals simp

/-- What `windowEnd` leaves unchanged. -/
@[simp] theorem windowEnd_frame (slot : Nat) (s : State) :
    (windowEnd slot s).held = s.held ∧ (windowEnd slot s).now = s.now ∧ (windowEnd slot s).cfg = s.cfg ∧
      (windowEnd slot s).flc = s.flc ∧ (windowEnd slot s).hu = s.hu ∧ (windowEnd slot s).pending = s.pending := by
  unfold windowEnd
  split
  · simp
  · rename_i c _
    split
    · split
      · simp
      · rename_i o _
        have h := takeStep_frame c o s
        split <;> simp_all
    · simp

/-- What `callRetryEnd` leaves unchanged. -/
@[simp] theorem callRetryEnd_frame (slot : Nat) (s : State) :
    (callRetryEnd slot s).held = s.held ∧ (callRetryEnd slot s).now = s.now ∧ (callRetryEnd slot s).cfg = s.cfg ∧
      (callRetryEnd slot s).pt = s.pt ∧ (callRetryEnd slot s).vr = s.vr ∧ (callRetryEnd slot s).flc = s.flc ∧
      (callRetryEnd slot s).hu = s.hu ∧ (callRetryEnd slot s).pending = s.pending := by
  unfold callRetryEnd
  repeat' split
  all_goals simp

/-- What `reclaimEnd` leaves unchanged. -/
@[simp] theorem reclaimEnd_frame (s : State) :
    (reclaimEnd s).held = s.held ∧ (reclaimEnd s).now = s.now ∧ (reclaimEnd s).cfg = s.cfg ∧
      (reclaimEnd s).pt = s.pt ∧ (reclaimEnd s).flc = s.flc ∧ (reclaimEnd s).hu = s.hu ∧
      (reclaimEnd s).pending = s.pending := by
  unfold reclaimEnd
  repeat' split
  all_goals simp

/-- What `pledgeHoldEnd` leaves unchanged. -/
@[simp] theorem pledgeHoldEnd_frame (v : Nat) (s : State) :
    (pledgeHoldEnd v s).held = s.held ∧ (pledgeHoldEnd v s).now = s.now ∧ (pledgeHoldEnd v s).cfg = s.cfg ∧
      (pledgeHoldEnd v s).cpc = s.cpc ∧ (pledgeHoldEnd v s).jt = s.jt ∧ (pledgeHoldEnd v s).pt = s.pt ∧
      (pledgeHoldEnd v s).flc = s.flc ∧ (pledgeHoldEnd v s).hu = s.hu ∧ (pledgeHoldEnd v s).pbc = s.pbc ∧
      (pledgeHoldEnd v s).pending = s.pending := by
  unfold pledgeHoldEnd
  repeat' split
  all_goals simp

/-- What `callEntryEnd` leaves unchanged. -/
@[simp] theorem callEntryEnd_frame (id : CallId) (s : State) :
    (callEntryEnd id s).held = s.held ∧ (callEntryEnd id s).now = s.now ∧ (callEntryEnd id s).cfg = s.cfg ∧
      (callEntryEnd id s).cpc = s.cpc ∧ (callEntryEnd id s).jt = s.jt ∧ (callEntryEnd id s).pt = s.pt ∧
      (callEntryEnd id s).flc = s.flc ∧ (callEntryEnd id s).hu = s.hu ∧ (callEntryEnd id s).pbc = s.pbc ∧
      (callEntryEnd id s).pending = s.pending := by
  unfold callEntryEnd
  repeat' split
  all_goals simp

/-- What `askRetryEnd` leaves unchanged. -/
@[simp] theorem askRetryEnd_frame (tag : Nat) (s : State) :
    (askRetryEnd tag s).held = s.held ∧ (askRetryEnd tag s).now = s.now ∧ (askRetryEnd tag s).cfg = s.cfg ∧
      (askRetryEnd tag s).pt = s.pt ∧ (askRetryEnd tag s).vr = s.vr ∧ (askRetryEnd tag s).flc = s.flc ∧
      (askRetryEnd tag s).pending = s.pending := by
  unfold askRetryEnd
  repeat' split
  all_goals simp

/-- What `admitWaitEnd` leaves unchanged. -/
@[simp] theorem admitWaitEnd_frame (tag : Nat) (s : State) :
    (admitWaitEnd tag s).held = s.held ∧ (admitWaitEnd tag s).now = s.now ∧ (admitWaitEnd tag s).cfg = s.cfg ∧
      (admitWaitEnd tag s).cu = s.cu ∧ (admitWaitEnd tag s).pbc = s.pbc ∧ (admitWaitEnd tag s).pending = s.pending := by
  unfold admitWaitEnd
  repeat' split
  all_goals simp

/-- What `transitEnd` leaves unchanged. -/
@[simp] theorem transitEnd_frame (v : Nat) (s : State) :
    (transitEnd v s).held = s.held ∧ (transitEnd v s).now = s.now ∧ (transitEnd v s).cfg = s.cfg ∧
      (transitEnd v s).jt = s.jt ∧ (transitEnd v s).pt = s.pt ∧ (transitEnd v s).flc = s.flc ∧
      (transitEnd v s).decisionPending = s.decisionPending ∧ (transitEnd v s).cu = s.cu ∧
      (transitEnd v s).hu = s.hu ∧ (transitEnd v s).pbc = s.pbc ∧ (transitEnd v s).pending = s.pending := by
  unfold transitEnd
  repeat' split
  all_goals simp

/-- What `inboundEnd` leaves unchanged. -/
@[simp] theorem inboundEnd_frame (v : Nat) (s : State) :
    (inboundEnd v s).held = s.held ∧ (inboundEnd v s).now = s.now ∧ (inboundEnd v s).cfg = s.cfg ∧
      (inboundEnd v s).flc = s.flc ∧ (inboundEnd v s).hu = s.hu ∧ (inboundEnd v s).pbc = s.pbc ∧
      (inboundEnd v s).pending = s.pending := by
  unfold inboundEnd
  repeat' split
  all_goals simp

/-- What `reportStale` leaves unchanged. -/
@[simp] theorem reportStale_frame (stale : List Nat) (s : State) :
    (reportStale stale s).held = s.held ∧ (reportStale stale s).now = s.now ∧ (reportStale stale s).cfg = s.cfg ∧
      (reportStale stale s).pt = s.pt ∧ (reportStale stale s).vr = s.vr ∧ (reportStale stale s).flc = s.flc ∧
      (reportStale stale s).pending = s.pending := by
  unfold reportStale
  split
  · simp
  · refine ⟨(foldl_keeps State.held _ (by simp) _ _).trans ?_,
      (foldl_keeps State.now _ (by simp) _ _).trans ?_,
      (foldl_keeps State.cfg _ (by simp) _ _).trans ?_,
      (foldl_keeps State.pt _ (by simp) _ _).trans ?_,
      (foldl_keeps State.vr _ (by simp) _ _).trans ?_,
      (foldl_keeps State.flc _ (by simp) _ _).trans ?_,
      (foldl_keeps State.pending _ (by simp) _ _).trans ?_⟩ <;> simp

/-- What `beaconEnd` leaves unchanged. -/
@[simp] theorem beaconEnd_frame (s : State) :
    (beaconEnd s).held = s.held ∧ (beaconEnd s).now = s.now ∧ (beaconEnd s).cfg = s.cfg ∧
      (beaconEnd s).pt = s.pt ∧ (beaconEnd s).vr = s.vr ∧ (beaconEnd s).flc = s.flc ∧
      (beaconEnd s).pending = s.pending := by
  unfold beaconEnd
  dsimp only
  repeat' split
  all_goals simp

/-- What `silenceEnd` leaves unchanged. -/
@[simp] theorem silenceEnd_frame (s : State) :
    (silenceEnd s).held = s.held ∧ (silenceEnd s).now = s.now ∧ (silenceEnd s).cfg = s.cfg ∧
      (silenceEnd s).jt = s.jt ∧ (silenceEnd s).pt = s.pt ∧ (silenceEnd s).vr = s.vr ∧ (silenceEnd s).flc = s.flc ∧
      (silenceEnd s).decisionPending = s.decisionPending ∧ (silenceEnd s).cu = s.cu ∧ (silenceEnd s).hu = s.hu ∧
      (silenceEnd s).pending = s.pending := by
  unfold silenceEnd
  repeat' split
  all_goals simp

end Sys2Proof.Machine
end

