-- ==== Sys2Proof/Tests/Slice0.lean ====
section
/-! SUPPORT. Own tests: small bays built by helpers; for every check of WellFormed an ill-formed term it refuses;
for every
obligation with hypotheses a state and operands that meet them, clause by clause; and the spec's worked figures. -/

open Sys2Proof Sys2Proof.Machine

namespace Sys2Proof.Tests

/- One theorem at a time: many kernel evaluations side by side would need a thread's stack each. -/
set_option Elab.async false

/-! ### Small bays -/

/-- A port's record. -/
def port (m : PortMode) (pos cap occ : Nat) (ready : Bool) : Port :=
  { mode := m, position := pos, capacity := cap, occupied := occ, reserved := 0, ready := ready, waitList := [] }

/-- The bay of the worked pass of chapter 6, in RUN at one second, with its tables empty: L 2400, X 2250, ReachLimit
300, station 6 LIVE with Leg 4000, and port 10 as fallback. -/
def bay : State :=
  { State.reset with
    now := 1000
    cfg :=
      { Cfg.reset with
        station := 3, loopLength := 2400, exitPoint := 2250, reachLimit := 300, fallback := some 10
        leg := (Vector.replicate 32 0).set 6 4000, park := #v[some 2300, some 400, some 1000, none, none, none, none, none] }
    cpc := { State.reset.cpc with level := .run }
    pt := State.reset.pt |>.set 2 (port .supply 600 4 2 true) |>.set 3 (port .take 150 2 0 false)
      |>.set 4 (port .supply 180 4 2 true) |>.set 5 (port .supply 320 4 0 false) |>.set 7 (port .supply 1200 4 1 true)
      |>.set 9 (port .take 900 4 1 false) |>.set 10 (port .take 2000 2 0 false)
    pbc :=
      { State.reset.pbc with
        silenceDeadline := 1040
        peers := State.reset.pbc.peers.set 6
          { state := .live, freshness := 4, spare := 2, freeRecords := 3, freeJobSlots := 10, waitingJobs := 0,
            quiet := false } } }

/-- The same bay in ISOLATED. -/
def lone : State := { bay with cpc := { bay.cpc with level := .isolated, isolationCause := some .host } }

/-- The same bay in CONFIG. -/
def idleBay : State := { bay with cpc := State.reset.cpc }

/-- A SINGLE job of class 2 from port 4 to port 9, WAITING. -/
def job (tag : Nat) : Job :=
  { tag := tag, senderTag := none, carrier := 0, cls := 2, mode := .single, rearm := false, count := 1, reload := 1,
    movesDone := 0, source := .port 4, dest := .here 9, originalDest := none, age := 0, callBarred := false,
    state := .waiting, holdReason := none, vehicle := none, reservation := none, callLink := none, askSeq := none }

/-- A job bound to a vehicle as CURRENT. -/
def bound (tag v : Nat) (st : JobState) : Job := { job tag with state := st, vehicle := some (v, .current) }

/-- A vehicle standing at a position in a state. -/
def car (v : Nat) (st : VehicleState) (pos : Nat) : Vehicle :=
  { vehicle := v, state := st, position := some pos, laden := none, ownerConfirmed := true, target := none,
    currentJob := none, nextJob := none, parkSlot := none, idleSince := some 0, lastStatus := some 500,
    faultReason := none, inbound := none, pledge := none, lend := none, prior := none, parkDeadline := none,
    lostHold := none }

/-- A vehicle at work on a job. -/
def busy (v : Nat) (st : VehicleState) (tag : Nat) : Vehicle := { car v st 100 with currentJob := some tag }

def jobs (l : List Job) (s : State) : State := { s with jt := { s.jt with jobs := l } }
def cars (l : List Vehicle) (s : State) : State := { s with vr := { s.vr with records := l } }

/-- One command in flight for a vehicle. -/
def flight (v : Nat) (c : FeederCmd) (deadline : Nat) (s : State) : State :=
  { s with
    flc := { s.flc with
      contexts := [{ vehicle := v, queued := none,
                     inFlight := some { cmd := c, seq := 5, deadline := deadline, haltSent := false, latest := true } }] } }

def theFlight (c : FeederCmd) (deadline : Nat) : InFlight :=
  { cmd := c, seq := 5, deadline := deadline, haltSent := false, latest := true }

def asks (l : List AskEntry) (s : State) : State := { s with hu := { s.hu with askList := l } }
def exits (l : List ExitEntry) (s : State) : State := { s with hu := { s.hu with exitQueue := l } }
def calls (l : List OwnCall) (s : State) : State := { s with cu := { s.cu with ownCalls := l } }
def taken (l : List TakenCall) (s : State) : State := { s with cu := { s.cu with takenCalls := l } }
def heard (l : List Incoming) (s : State) : State := { s with cu := { s.cu with incoming := l } }
def frames (l : List TxFrame) (s : State) : State := { s with pbc := { s.pbc with txQueue := l } }
def line (o : OnLine) (s : State) : State := { s with pbc := { s.pbc with onLine := some o } }
def errs (a b : Nat) (s : State) : State := { s with pbc := { s.pbc with errA := a, errB := b } }
def timed (n : Nat) (s : State) : State := { s with now := n }

/-- A call id of station 3 itself, and one of station 6. -/
def ours : CallId := { station := 3, seq := 17 }
def theirs : CallId := { station := 6, seq := 40 }

/-- The head of a frame from station 6 to this one. -/
def from6 : FrameHead := { sender := 6, target := 3 }

/-- An own call for a job, in OPEN with its window running. -/
def ownCall (tag : Nat) : OwnCall :=
  { slot := 0, id := ours, tag := tag, cls := 2, urgency := 980, state := .openCall, windowDeadline := some 1000,
    retryDeadline := none, best := none, retries := 0 }

def takenCall (tag v : Nat) : TakenCall :=
  { id := ours, tag := tag, cls := 2, urgency := 980, retries := 0, lender := 6, vehicle := v }

/-- A call heard from station 6. -/
def entry (seq : Byte) (u : Nat) : Incoming :=
  { caller := 6, id := { station := 6, seq := seq }, urgency := u, heardAt := 1000, pledge := none }

/-- An EXPECTED record from station 6. -/
def expected (v tag : Nat) (ref : InboundRef) (phase : Phase) : Vehicle :=
  { busy v .expected tag with
    position := none
    inbound := some { station := 6, ref := ref, phase := phase, deadline := 1000 } }

/-- A record PLEDGED to station 6's call. -/
def pledged (v : Nat) : Vehicle :=
  { car v .pledged 2000 with pledge := some { caller := 6, call := theirs, holdDeadline := 1000 } }

/-- The ask list entry of a job bound to a vehicle, for port 11 of station 6. -/
def ask (tag v : Nat) (st : AskState) : AskEntry :=
  { tag := tag, vehicle := v, station := 6, port := 11, askSeq := some 9, state := st, retryDeadline := some 1000,
    admitDeadline := some 1000 }

/-- A CLOSE and a CALL in the transmit queue. -/
def closeFrame : TxFrame := { target := 63, payload := .close ours }
def callFrame (c : BitVec 3) : TxFrame := { target := 63, payload := .call theirs c 980 }
def beaconFrame : TxFrame := { target := 63, payload := .beacon 0 24 64 0 0 }

/-- A frame on the line. -/
def sending (f : TxFrame) : OnLine := { frame := f, sender := 3, line := .a, noReturn := false, newerBeacon := false }

/-- What every statement about a command asks of the state: released from reset, nothing owed. -/
abbrev Ready (s : State) : Prop := s.held = false ∧ Settled s

/-! ### WellFormed: an ill-formed term for each check -/

theorem test_wf_refuses_known_code : (Instr.unknownCommandCode 15).wf = false := by decide
theorem test_wf_refuses_vehicle_0 :
    (Instr.status 0 ⟨0, 0, 0, 0, 0, 0⟩).wf = false ∧ (Instr.done 1024 0 0 0).wf = false ∧
      (Instr.entry 0).wf = false ∧ (Instr.exit 1024).wf = false := by decide

theorem test_wf_refuses_usable_record :
    (Instr.feederRecordRejected (withCrc [18, 0, 7])).wf = false := by decide +kernel
theorem test_wf_refuses_expiry_of_nothing :
    [Instr.commandTimeLimitExpiry 0, .statusTimeoutExpiry 0, .lostHoldExpiry 0, .parkDelayExpiry 0, .passListExpiry 0,
      .pledgeHoldExpiry 0, .transitLimitExpiry 0, .inboundDeadlineExpiry 0, .portWaitExpiry 0, .askRetryExpiry 0,
      .admitWaitExpiry 0].all (fun c => !c.wf) = true := by decide

theorem test_wf_refuses_good_bytes_as_bad :
    (Instr.badFrame .a (Frame.encode ⟨6, 63, .close theirs⟩)).wf = false := by decide +kernel
theorem test_wf_refuses_all_stations_as_unaccepted : (Instr.unacceptedFrame ⟨6, 63⟩).wf = false := by decide
theorem test_wf_refuses_target_48 :
    [Instr.call ⟨6, 48⟩ theirs 0 0, .offer ⟨6, 48⟩ theirs 0 0, .take ⟨6, 48⟩ theirs 0 0, .close ⟨6, 48⟩ theirs,
      .refuse ⟨6, 48⟩ theirs 0, .ask ⟨6, 62⟩ 0 0 0 0 0 0, .grant ⟨6, 62⟩ 0 0, .defer ⟨6, 62⟩ 0 0 0, .deny ⟨6, 62⟩ 0 0,
      .handoff ⟨6, 64⟩ 0 (.lent theirs), .beacon ⟨6, 255⟩ 0 0 0 0 0].all (fun c => !c.wf) = true := by decide

theorem test_wf_accepts_47_and_63 :
    (Instr.call ⟨6, 47⟩ theirs 0 0).wf = true ∧ (Instr.call ⟨6, 63⟩ theirs 0 0).wf = true := by decide

theorem test_no_row_has_bits : decodeTableWord 8 1 = none ∧ decodeTableWord 16 1 = none := by decide

/-! ### The spec's worked figures -/

/-- R190: the CRC-16 of the nine digits. -/
theorem test_crc : crc16 [0x31, 0x32, 0x33, 0x34, 0x35, 0x36, 0x37, 0x38, 0x39] = 0x29B1 := by decide +kernel
/-- The table of forward distances of chapter 1. -/
theorem test_distances :
    [(100, 150), (2350, 180), (200, 180), (180, 180), (2399, 0), (0, 2399)].map (fun p => bay.dist p.1 p.2) =
      [50, 230, 2380, 0, 1, 2399] := by decide +kernel
/-- The worked figures of urgency of chapter 1. -/
theorem test_urgencies :
    urgency { job 1 with cls := 3, age := 40 } bay = 1340 ∧ urgency { job 1 with cls := 0, age := 12 } bay = 0 ∧
      urgency { job 1 with cls := 7, age := 255 } { bay with cfg := { bay.cfg with ageGain := 15 } } = 0 := by
  decide +kernel

/-- The worked figures of time limits of chapter 1. -/
theorem test_time_limits :
    timeLimit (.goto 180) 2350 bay = 5460 ∧ timeLimit (.leave 6) 2250 bay = 5000 ∧ timeLimit .load 0 bay = 30000 ∧
      timeLimit .halt 0 bay = 2000 ∧
      timeLimit (.goto 0) 1 { bay with cfg := { bay.cfg with markAllow := 100, loopLength := 16383 } } = 600000 := by
  decide +kernel

/-- The worked offer of chapter 1: 1400 + 3200 at the lender, 4780 in total at the caller. -/
theorem test_offer_totals :
    offerEstimate 500 6 { bay with
      cfg := { bay.cfg with loopLength := 2000, exitPoint := 1900, leg := bay.cfg.leg.set 6 3200 } } = 4600 ∧
      callerTotal 4600 180 bay = 4780 ∧ callerTotal 65535 2399 bay = 65535 := by decide +kernel
/-- The contention examples of R163. -/
theorem test_contention_keys :
    [(Payload.call ours 2 0).key 3, (Payload.offer ours 0 0).key 8, (Payload.call ours 1 0).key 5,
      (Payload.call ours 1 0).key 9, (Payload.call ours 0 0).key 20, (Payload.call ours 3 0).key 1,
      (Payload.ask 0 0 0 3 0 0).key 4, (Payload.beacon 0 0 0 0 0).key 0] =
      [579, 264, 549, 553, 532, 609, 356, 768] := by decide +kernel

/-! ### The hypotheses of the obligations can be met -/

/-- A SUBMIT of job 7 from port 4 to port 9, and one to port 47 of station 6. -/
def sub : SubmitRecord :=
  { tag := 7, carrier := 0, cls := 2, mode := 0, rearm := 0, count := 1, sourcePort := 4, destKind := 0,
    destStation := 0, destPort := 9 }
def subAway : SubmitRecord := { sub with tag := 65535, cls := 7, destKind := 1, destStation := 6, destPort := 47 }

/-- A job whose call stands in slot 0. -/
def calling (tag : Nat) : Job := { job tag with state := .calling, callLink := some 0 }

/-- Job 7 waits with vehicle 5 at port 5, and job 8 is paused there. -/
def waitBay : State :=
  modifyPort 5 (fun p => { p with waitList := [{ tag := 7, deadline := 21000 }] })
    (cars [busy 5 .toPickup 7]
      (jobs [{ bound 7 5 .assigned with source := .port 5 }, { job 8 with state := .paused, source := .port 5 }] bay))

/-- Vehicle 5 on its way to job 7's source. -/
def working : State := cars [busy 5 .toPickup 7] (jobs [bound 7 5 .assigned] bay)

/-- A STATUS of a stopped, empty vehicle of this station. -/
def good : StatusReport := { position := 2399, motion := 0, laden := 0, carrier := 0, owner := 3, health := 0 }

/-- Vehicle 5 loading for job 7 at port 4. -/
def loadBay : State := flight 5 .load 31000 (cars [busy 5 .loading 7] (jobs [bound 7 5 .loading] bay))

/-- Vehicle 5 unloading for job 7 at port 9, with job 8 next. -/
def unloadBay : State :=
  flight 5 .unload 31000
    (cars [{ busy 5 .unloading 7 with laden := some 55, nextJob := some 8 }]
      (jobs [bound 7 5 .carrying, { bound 8 5 .assigned with vehicle := some (5, .next) }] bay))

/-- Vehicle 5 holding at X with job 7 for port 11 of station 6, its ASK in the state given. -/
def awayBay (st : AskState) (may : Bool) : State :=
  exits [{ vehicle := 5, lent := false, mayLeave := may, leaveSent := may }]
    (asks [ask 7 5 st]
      (cars [{ busy 5 .holding 7 with laden := some 55 }]
        (jobs [{ bound 7 5 .holding with dest := .remote 6 11 }] bay)))

/-- A lending round at its end, with two callers and so many idle vehicles, vehicle 2 nearest the exit. -/
def lending (n : Nat) : State :=
  { heard [entry 41 6, entry 40 5] (cars ((List.range n).map fun k => car k .idle (700 * k)) bay) with
    cu :=
      { (heard [entry 41 6, entry 40 5] bay).cu with reclaimDeadline := some 1000 } }

/-- Vehicle 5 pledged to station 6's call. -/
def pledgeBay : State := cars [pledged 5] (heard [{ entry 40 5 with pledge := some 5 }] bay)

/-- Vehicle 5's context with a command in flight, and with one behind it. -/
def theContext (c : FeederCmd) (d : Nat) : Context :=
  { vehicle := 5, inFlight := some (theFlight c d), queued := none }

/-- The same state with a command, or a HALT already sent, queued behind the one in flight. -/
def behind (q : Queued) (haltSent : Bool) (s : State) : State :=
  { s with
    flc := { s.flc with
      contexts := s.flc.contexts.map fun x =>
        { x with queued := some q, inFlight := x.inFlight.map fun i => { i with haltSent := haltSent } } } }

/-- Vehicle 5 on its way to position k, as its record's target says. -/
def going (k : Nat) (r : Vehicle) (l : List Job) : State :=
  flight 5 (.goto k) 9000 (cars [{ r with target := some k }] (jobs l bay))

/-- A job bound to vehicle 5 for port 11 of station 6. -/
def away (st : JobState) : Job := { bound 7 5 st with dest := .remote 6 11 }

/-- A full transmit queue whose last frame is the one given. -/
def full (w : TxFrame) (s : State) : State := frames (List.replicate 7 closeFrame ++ [w]) s

/-- For EmptyQueueLetsOneMillisecondPass; StepRunsTheFrontCommand has no hypothesis. -/
theorem witness_StepRunsAndIdles :
    bay.pending = [] ∧
    bay.held = false ∧
    { bay with held := true }.held = true := by
  decide +kernel

theorem witness_CommandsKeepQueueClockAndStore :
    Instr.start.isReset = false ∧
    bay.cpc.level ≠ .config ∧
    idleBay.cpc.level = .config ∧
    Instr.start.isCfgWrite = false ∧
    { bay with held := true }.held = true := by
  decide +kernel

theorem witness_LevelChangesOnlyByItsCommands :
    Instr.isolate.isReset = false ∧
    (isolateCommand bay).cpc.level ≠ bay.cpc.level ∧
    (resumeCommand lone).cpc.level ≠ lone.cpc.level ∧
    (stopCommand lone).cpc.level ≠ lone.cpc.level ∧
    (startCommand { idleBay with cpc := { idleBay.cpc with checked := true } }).cpc.level ≠ idleBay.cpc.level := by
  decide +kernel

theorem witness_SubmitAdmitsJob :
    Ready bay ∧
    bay.cpc.level ≠ .config ∧
    SubmitFits sub .single (.here 9) bay ∧
    SubmitFits subAway .single (.remote 6 47) lone ∧
    Ready lone ∧
    findJob 7 bay = none ∧
    bay.jt.jobs.length < 64 := by
  simp only [Ready, Settled, SubmitFits]
  repeat' apply And.intro
  all_goals decide +kernel

theorem witness_SubmitAndCancelRefusedWithoutEffect :
    State.reset.cpc.level = .config ∧
    bay.held = false ∧ bay.cpc.level ≠ .config ∧
    (∀ m ∈ [JobMode.single, .run, .demand], ∀ d ∈ [Dest.here 9, .remote 0 9], ¬ SubmitFits { sub with tag := 0 } m d bay) ∧
    SubmitFits sub .single (.here 9) (jobs [job 7] bay) ∧
    (findJob 7 (jobs [job 7] bay)).isSome = true ∧
    SubmitFits sub .single (.here 9) (jobs ((List.range 64).map fun k => job (100 + k)) bay) ∧
    findJob 7 (jobs ((List.range 64).map fun k => job (100 + k)) bay) = none ∧
    64 ≤ ((List.range 64).map fun k => job (100 + k)).length ∧
    findJob 9 bay = none ∧
    findJob 7 (jobs [bound 7 5 .loading] bay) = some (bound 7 5 .loading) ∧
    (bound 7 5 .inbound).state = .inbound := by
  simp only [SubmitFits]
  repeat' apply And.intro
  all_goals decide +kernel

theorem witness_CancelRetiresJobAndUndoesItsBinding :
    Ready (jobs [job 7] bay) ∧
    findJob 7 (jobs [job 7] bay) = some (job 7) ∧
    bay.pbc.txQueue.length < 8 ∧
    (job 7).state = .waiting ∧ (job 7).vehicle = none ∧
    Ready (calls [ownCall 7] (jobs [calling 7] bay)) ∧
    (calling 7).vehicle = none ∧
    ((calls [ownCall 7] bay).cu.ownCalls.find? fun x => x.tag == 7) = some (ownCall 7) ∧
    Ready (jobs [{ bound 7 5 .assigned with vehicle := some (5, .next) }] bay) ∧
    Ready (cars [busy 5 .toPickup 7] (jobs [bound 7 5 .assigned] bay)) ∧
    findVehicle 5 (cars [busy 5 .toPickup 7] bay) = some (busy 5 .toPickup 7) ∧
    (busy 5 .toPickup 7).inbound = none ∧
    Ready (cars [expected 5 7 (.lent ours) .awaitHandoff] (jobs [bound 7 5 .assigned] bay)) ∧
    (expected 5 7 (.lent ours) .awaitHandoff).inbound.map Inbound.ref = some (.lent ours) := by
  simp only [Ready, Settled]
  repeat' apply And.intro
  all_goals decide +kernel

theorem witness_PortSetWritesPortAndServesReadiness :
    Ready bay ∧
    Ready State.reset ∧
    (getPort 0 bay).mode = .off ∧
    (getPort 47 bay).mode = .off ∧
    (getPort 5 waitBay).mode ≠ .off ∧
    (getPort 5 waitBay).ready = false ∧
    Ready waitBay ∧
    (getPort 5 waitBay).waitList = [{ tag := 7, deadline := 21000 }] ∧
    (findJob 7 waitBay).map (fun j => j.vehicle.isSome) = some true ∧
    (findJob 8 waitBay).map (fun j => (j.state, j.source)) = some (.paused, .port 5) ∧
    (getPort 9 bay).capacity = 4 ∧
    ((getPort 5 waitBay).waitList.map PortWait.tag).Nodup ∧
    (findJob 7 waitBay).map Job.vehicle = some (some (5, .current)) ∧
    findVehicle 5 waitBay = some (busy 5 .toPickup 7) ∧
    findContext 5 waitBay = none := by
  simp only [Ready, Settled]
  repeat' apply And.intro
  all_goals decide +kernel

theorem witness_VehicleRemoveTakesFaultedOrLost :
    Ready State.reset ∧
    Ready bay ∧
    findVehicle 5 bay = none ∧
    Ready (cars [car 5 .faulted 100, car 6 .idle 100] bay) ∧
    findVehicle 6 (cars [car 5 .faulted 100, car 6 .idle 100] bay) = some (car 6 .idle 100) ∧
    findVehicle 5 (cars [car 5 .faulted 100, car 6 .idle 100] bay) = some (car 5 .faulted 100) ∧
    findVehicle 5 (cars [car 5 .lost 100] bay) = some (car 5 .lost 100) := by
  simp only [Ready, Settled]
  repeat' apply And.intro
  all_goals decide +kernel

/-- For ReadsChangeNothingAndFillTheirRecords and NoticeReadRemovesWhatItCarried. -/
theorem witness_ReadsChangeNothingAndFillTheirRecords :
    bay.held = false ∧
    findJob 7 (jobs [job 7] bay) = some (job 7) ∧
    (31 : Byte).toNat < 32 ∧
    32 ≤ (32 : Byte).toNat := by
  decide +kernel

theorem witness_CfgWriteStoresClampedValue :
    bay.cpc.level ≠ .config ∧
    State.reset.cpc.level = .config ∧
    itemOf 0 = none ∧
    itemOf 46 = none ∧
    (itemOf 4).map (fun i => (i.indices, i.lo, i.hi)) = some (1, 64, 16383) ∧
    (itemOf 19).map Item.mayBeAbsent = some true ∧
    (itemOf 3).isSome = true ∧
    (itemOf 17).map Item.indices = some 48 ∧
    (itemOf 6).map Item.indices = some 32 := by
  decide +kernel

theorem witness_CfgCheckNamesFirstFailure :
    bay.cpc.level ≠ .config ∧
    idleBay.cpc.level = .config ∧
    idleBay.cfg.exitPoint < idleBay.cfg.loopLength ∧
    badPorts idleBay = [] ∧
    badParks idleBay = [] ∧
    equalParks idleBay = [] ∧
    (State.reset.cfg.fallback = none ∧ badPorts State.reset = [] ∧ badParks State.reset = [] ∧
      equalParks State.reset = []) ∧
    (let s := { idleBay with cfg := { idleBay.cfg with exitPoint := 2400 } };
      s.cfg.loopLength ≤ s.cfg.exitPoint) ∧
    (let s := modifyPort 2 (fun p => { p with position := 2400 }) idleBay; (getPort 2 s).mode ≠ .off ∧
      s.cfg.loopLength ≤ (getPort 2 s).position ∧
      ∀ k < 2, (getPort k s).mode ≠ .off → (getPort k s).position < s.cfg.loopLength) ∧
    (let s := { idleBay with cfg := { idleBay.cfg with park := idleBay.cfg.park.set 7 (some 2400) } };
      badPorts s = [] ∧ s.cfg.park.getD 7 none = some 2400 ∧
      ∀ k < 7, ∀ a ∈ (s.cfg.park.getD k none).toList, a < s.cfg.loopLength) ∧
    (let s := { idleBay with cfg := { idleBay.cfg with park := idleBay.cfg.park.set 7 (some 400) } };
      badPorts s = [] ∧ badParks s = [] ∧ (equalParks s).head? = some (1, 7)) := by
  decide +kernel

/-- For StartEntersRun, IsolateEntersIsolated, ResumeReturnsToRun and StopEmptiesTables. -/
theorem witness_LevelCommands :
    Ready bay ∧
    Ready lone ∧
    Ready idleBay ∧
    bay.cpc.level = .run ∧
    lone.cpc.level = .isolated ∧
    idleBay.cpc.level = .config ∧
    idleBay.cpc.checked = false ∧
    (let s := { idleBay with cpc := { idleBay.cpc with checked := true } }; Ready s ∧ s.jt.jobs = [] ∧
      s.vr.records = [] ∧ s.cu.incoming = []) ∧
    (let s := full closeFrame { idleBay with cpc := { idleBay.cpc with checked := true } }; Ready s ∧
      8 ≤ s.pbc.txQueue.length ∧ s.pbc.txQueue.any TxFrame.isBeacon = false) ∧
    lone.pbc.txQueue = [] ∧
    (let s := asks [ask 7 5 .held] (jobs [away .carrying] lone); Ready s ∧ s.hu.askList.length ≤ 7 ∧
      (s.hu.askList.map AskEntry.tag).Nodup ∧ findAsk 7 s = some (ask 7 5 .held) ∧
      findJob 7 s = some (away .carrying) ∧ (getPeer 6 s).state = .live ∧
      0 < (getPeer 6 s).freeRecords ∧ 0 < (getPeer 6 s).freeJobSlots) ∧
    (let s := asks [{ ask 7 5 .held with station := 9 }] (jobs [away .carrying] lone); Ready s ∧
      (getPeer 9 s).state ≠ .live) ∧
    (ask 7 5 .granted).state ≠ .held := by
  simp only [Ready, Settled]
  repeat' apply And.intro
  all_goals decide +kernel

theorem witness_UnknownCodeAndEarlyReleaseHaveNoEffect :
    bay.held = false ∧
    commandLength 0 = none ∧
    commandLength 16 = none := by
  decide +kernel

theorem witness_StatusActsOnOwnedRecord :
    Ready working ∧
    vehicleInRange 1 = true ∧ vehicleInRange 1023 = true ∧
    ({ good with position := 2400 }).view 2400 = none ∧
    (good.view 2400).map StatusView.healthBad = some false ∧
    Ready idleBay ∧
    findVehicle 5 working = some (busy 5 .toPickup 7) ∧
    (busy 5 .toPickup 7).state.owned = true ∧
    ({ good with owner := 255 }.view 2400).map StatusView.owner = some none ∧
    ({ good with health := 1 }.view 2400).map StatusView.healthBad = some true ∧
    findJob 7 working = some (bound 7 5 .assigned) ∧
    (good.view 2400).map (fun t => (t.laden, t.motion, t.owner)) = some (none, .stopped, some 3) ∧
    (car 5 .faulted 100).state = .faulted ∧ Ready (cars [car 5 .faulted 100] bay) ∧
    (let s := cars [expected 5 7 (.lent ours) .inTransit] (jobs [bound 7 5 .assigned] bay); Ready s ∧
      findVehicle 5 s = some (expected 5 7 (.lent ours) .inTransit) ∧
      (expected 5 7 (.lent ours) .inTransit).nextJob = none) ∧
    (let r := { expected 5 7 (.laden 9) .inTransit with laden := some 55 };
      let s := cars [r] (jobs [bound 7 5 .inbound] bay); Ready s ∧ findVehicle 5 s = some r ∧
      Stranded r (bound 7 5 .inbound)) ∧
    (let r := { car 5 .lost 100 with prior := some { state := .faulted, abandoned := false }, lostHold := some 9000 };
      let s := cars [r] bay; Ready s ∧ findVehicle 5 s = some r ∧ r.currentJob = none ∧ r.nextJob = none) ∧
    (let r := { car 5 .lost 100 with prior := some { state := .idle, abandoned := true }, lostHold := some 9000 };
      let s := cars [r] bay; Ready s ∧ findVehicle 5 s = some r) ∧
    ({ good with laden := 1, carrier := 55 }.view 2400).map StatusView.laden = some (some 55) ∧
    ({ good with motion := 2 }.view 2400).map StatusView.motion = some .hoisting := by
  simp only [Ready, Settled, Stranded]
  repeat' apply And.intro
  all_goals decide +kernel

theorem witness_UnknownVehicleIsAdoptedOrPassed :
    Ready bay ∧
    bay.cpc.level ≠ .config ∧
    findVehicle 5 bay = none ∧
    (good.view 2400).isSome = true ∧
    onPassList 5 bay = false ∧
    (let s := { bay with vr := { records := [], passList := [{ vehicle := 5, sentAt := 0 }] } }; Ready s ∧
      onPassList 5 s = true) ∧
    (let s := cars ((List.range 24).map fun k => car (100 + k) .faulted 0) bay; Ready s ∧
      s.vr.records.length = 24 ∧ findVehicle 5 s = none) ∧
    ({ good with laden := 1, carrier := 55 }.view 2400).map StatusView.laden = some (some 55) ∧
    bay.jt.jobs.length < 64 ∧
    findContext 5 bay = none ∧
    (let s := jobs ((List.range 64).map fun k => { job (100 + k) with state := .paused }) bay; Ready s ∧
      64 ≤ s.jt.jobs.length) := by
  simp only [Ready, Settled]
  repeat' apply And.intro
  all_goals decide +kernel

theorem witness_UnusableFeederRecordsAreCounted :
    Ready bay ∧
    formTest [] = none ∧
    formTest (SentCmd.encode { vehicle := 5, sender := 4, seq := 3, cmd := .load }) = some (.command 5) ∧
    vehicleInRange 1023 = true ∧
    findContext 1023 bay = none ∧
    findContext 5 loadBay = some (theContext .load 31000) ∧ Ready loadBay ∧ (theFlight .load 31000).seq ≠ 4 ∧
    (4 : Byte) ∉ FeederCmd.load.results ∧ (7 : Byte) ∉ FeederCmd.load.results ∧
    (let s := behind (.haltSent 6 9000) false loadBay; Ready s ∧
      (findContext 5 s).map (fun x => x.queued.any (Queued.bears 6)) = some true) := by
  simp only [Ready, Settled]
  repeat' apply And.intro
  all_goals decide +kernel

theorem witness_LoadDoneCarriesOrReleases :
    Ready loadBay ∧
    vehicleInRange 5 = true ∧
    findContext 5 loadBay = some (theContext .load 31000) ∧
    findVehicle 5 loadBay = some (busy 5 .loading 7) ∧
    findJob 7 loadBay = some (bound 7 5 .loading) ∧
    (bound 7 5 .loading).source = .port 4 ∧
    (bound 7 5 .loading).dest = .here 9 ∧
    (bound 7 5 .loading).mismatch 16777215 = false ∧
    (busy 5 .loading 7).nextJob = none ∧
    (let s := jobs [away .loading] loadBay; Ready s ∧ findJob 7 s = some (away .loading) ∧
      (away .loading).mismatch 1 = false ∧ findAsk 7 s = none ∧ s.hu.askList.length ≤ 24 ∧
      s.pbc.txQueue.length < 8 ∧ mayAsk 6 s = true) ∧
    (let s := { jobs [away .loading] loadBay with cpc := lone.cpc }; Ready s ∧ mayAsk 6 s = false) ∧
    (let j := { bound 7 5 .loading with carrier := 55 }; let s := jobs [j] loadBay; Ready s ∧ findJob 7 s = some j ∧
      j.mismatch 56 = true ∧ s.cfg.fallback = some 10) := by
  simp only [Ready, Settled]
  repeat' apply And.intro
  all_goals decide +kernel

theorem witness_UnloadDoneFinishesMove :
    Ready unloadBay ∧
    findContext 5 unloadBay = some (theContext .unload 31000) ∧
    findVehicle 5 unloadBay = some { busy 5 .unloading 7 with laden := some 55, nextJob := some 8 } ∧
    findJob 7 unloadBay = some (bound 7 5 .carrying) ∧
    findJob 8 unloadBay = some { bound 8 5 .assigned with vehicle := some (5, .next) } ∧
    (bound 7 5 .carrying).mode = .single ∧ (bound 7 5 .carrying).count = 1 ∧ (bound 7 5 .carrying).rearm = false ∧
    (let s := { unloadBay with cfg := { bay.cfg with fallback := some 9 } }; Ready s ∧ s.cfg.fallback = some 9) ∧
    unloadBay.cfg.fallback = some 10 ∧
    Ready (cars [{ busy 5 .unloading 7 with laden := some 55 }] unloadBay) ∧
    (let j := { bound 7 5 .carrying with count := 1, rearm := true }; let s := jobs [j] unloadBay; Ready s ∧
      findJob 7 s = some j) ∧
    (let j := { bound 7 5 .carrying with count := 2 }; let s := jobs [j] unloadBay; Ready s ∧ findJob 7 s = some j) ∧
    (let j := { bound 7 5 .carrying with count := 2, mode := .run }; let s := jobs [j] unloadBay; Ready s ∧
      findJob 7 s = some j ∧ roomFor j 9 2 s = true) ∧
    (let j := { bound 7 5 .carrying with count := 255, mode := .demand, originalDest := some (.here 3) };
      let s := jobs [j] (modifyPort 3 (fun p => { p with occupied := 2 }) unloadBay); Ready s ∧
      findJob 7 s = some j ∧ roomFor j 3 2 s = false) := by
  simp only [Ready, Settled]
  repeat' apply And.intro
  all_goals decide +kernel

theorem witness_GotoAdoptAndHaltEnd :
    (let s := flight 5 .halt 9000 idleBay; Ready s ∧ findContext 5 s = some (theContext .halt 9000) ∧
      findVehicle 5 s = none ∧ (0 : Byte) ∈ FeederCmd.halt.results) ∧
    (let s := going 400 (car 5 .parking 0) []; Ready s ∧ findContext 5 s = some (theContext (.goto 400) 9000) ∧
      (findVehicle 5 s).map (fun r => (r.state, r.target)) = some (.parking, some 400)) ∧
    (let s := flight 5 (.goto 400) 9000 (cars [car 5 .idle 0] bay); Ready s ∧
      findVehicle 5 s = some (car 5 .idle 0) ∧ (car 5 .idle 0).target ≠ some 400) ∧
    Ready (flight 5 .adopt 9000 (cars [car 5 .idle 0] bay)) ∧ Ready (flight 5 .halt 9000 (cars [car 5 .idle 0] bay)) ∧
    Ready (flight 5 (.leave 6) 9000 (cars [car 5 .idle 0] bay)) ∧
    (let r := { car 5 .departing 100 with lend := some { caller := 6, call := theirs } };
      Ready (flight 5 (.goto 400) 9000 (cars [r] bay)) ∧ Ready (flight 5 .halt 9000 (cars [r] bay)) ∧
      r.target = none ∧ (let s := going 2250 r []; Ready s ∧ s.hu.exitQueue = [] ∧
        (findVehicle 5 s).map (fun x => (x.state, x.target, x.lend)) = some (.departing, some 2250, r.lend))) ∧
    (let s := going 180 (busy 5 .toPickup 7) [bound 7 5 .assigned]; Ready s ∧ (getPort 4 s).ready = true ∧
      findJob 7 s = some (bound 7 5 .assigned)) ∧
    (let j := { bound 7 5 .assigned with source := .port 5 }; let s := going 320 (busy 5 .toPickup 7) [j]; Ready s ∧
      (getPort 5 s).ready = false ∧ j.mode ≠ .demand) ∧
    (let j := { bound 7 5 .assigned with source := .port 5, mode := .demand };
      let s := going 320 (busy 5 .toPickup 7) [j]; Ready s ∧ (busy 5 .toPickup 7).nextJob = none) ∧
    (let s := going 900 (busy 5 .laden 7) [bound 7 5 .carrying]; Ready s ∧ (bound 7 5 .carrying).dest = .here 9) ∧
    (let s := asks [ask 7 5 .asking] (going 2250 (busy 5 .laden 7) [away .carrying]); Ready s ∧
      ((findAsk 7 s).any fun e => e.state == .granted) = false ∧ s.hu.exitQueue = [] ∧ (busy 5 .laden 7).lend = none) ∧
    (let s := asks [ask 7 5 .granted] (going 2250 (busy 5 .laden 7) [away .carrying]); Ready s ∧
      ((findAsk 7 s).any fun e => e.state == .granted) = true) ∧
    (let s := behind (.waiting (.goto 400)) false (flight 5 .adopt 9000 (cars [car 5 .idle 0] bay)); Ready s ∧
      (findContext 5 s).map Context.queued = some (some (.waiting (.goto 400)))) ∧
    Ready (behind (.waiting (.goto 400)) false (flight 5 .halt 9000 (cars [car 5 .idle 0] bay))) ∧
    Ready (behind (.waiting (.goto 180)) true (flight 5 (.goto 400) 9000 (cars [car 5 .idle 0] bay))) ∧
    Ready (behind (.waiting (.goto 180)) true (flight 5 (.leave 6) 9000 (cars [car 5 .idle 0] bay))) ∧
    Ready (behind (.haltSent 6 3000) false (flight 5 .adopt 9000 (cars [car 5 .idle 0] bay))) ∧
    Ready (behind (.haltSent 6 3000) true (flight 5 (.goto 400) 9000 idleBay)) ∧
    Ready (behind (.haltSent 6 3000) true (flight 5 (.goto 400) 9000
      (cars [{ car 5 .departing 100 with lend := some { caller := 6, call := theirs } }] bay))) ∧
    (let s := behind (.haltSent 6 3000) true (going 400 (car 5 .idle 0) []); Ready s ∧
      (theFlight (.goto 400) 9000).seq ≠ 6 ∧
      (findContext 5 s).map Context.queued = some (some (.haltSent 6 3000))) := by
  simp only [Ready, Settled]
  repeat' apply And.intro
  all_goals decide +kernel

theorem witness_EntryAdoptsExpectedVehicle :
    Ready bay ∧
    Ready idleBay ∧
    findVehicle 5 bay = none ∧
    Ready (cars [car 5 .idle 0] bay) ∧
    (let s := cars [expected 5 7 (.lent ours) .inTransit] (jobs [bound 7 5 .assigned] bay); Ready s ∧
      findVehicle 5 s = some (expected 5 7 (.lent ours) .inTransit) ∧ findContext 5 s = none ∧
      findJob 7 s = some (bound 7 5 .assigned)) ∧
    (let s := cars [{ expected 5 7 (.lent ours) .inTransit with currentJob := none }] bay; Ready s) ∧
    (let s := cars [expected 5 7 (.laden 9) .inTransit] (jobs [bound 7 5 .inbound] bay); Ready s ∧
      findJob 7 s = some (bound 7 5 .inbound)) := by
  simp only [Ready, Settled]
  repeat' apply And.intro
  all_goals decide +kernel

theorem witness_ExitRemovesVehicleAndHandsOver :
    Ready bay ∧
    idleBay.cpc.level = .config ∧ bay.cpc.level ≠ .config ∧ Ready idleBay ∧
    findExit 5 bay = none ∧
    (let s := awayBay .asking false; Ready s ∧ (findExit 5 s).map ExitEntry.leaveSent = some false) ∧
    (let s := exits [{ vehicle := 5, lent := false, mayLeave := true, leaveSent := true }] (cars [car 5 .idle 0] bay);
      Ready s ∧ findVehicle 5 s = some (car 5 .idle 0)) ∧
    (let s := exits [{ vehicle := 5, lent := true, mayLeave := true, leaveSent := true }]
        (cars [{ car 5 .holding 2250 with lend := some { caller := 6, call := theirs } }] bay);
      Ready s ∧ (findExit 5 s).map ExitEntry.leaveSent = some true ∧
      (findVehicle 5 s).map Vehicle.lend = some (some { caller := 6, call := theirs }) ∧ s.pbc.txQueue.length < 8) ∧
    (let s := flight 5 (.leave 6) 9000 (awayBay .granted true); Ready s ∧
      (findExit 5 s).map ExitEntry.leaveSent = some true ∧ findContext 5 s = some (theContext (.leave 6) 9000) ∧
      onPassList 5 s = false ∧
      (findVehicle 5 s).map (fun r => (r.state, r.lend, r.currentJob)) = some (.holding, none, some 7) ∧
      (findJob 7 s).map Job.dest = some (.remote 6 11) ∧ (findAsk 7 s).map AskEntry.askSeq = some (some 9) ∧
      s.cpc.level = .run) ∧
    lone.cpc.level = .isolated := by
  simp only [Ready, Settled]
  repeat' apply And.intro
  all_goals decide +kernel

theorem witness_CommandTimeLimitFaultsVehicle :
    Ready loadBay ∧
    Ready (timed 31000 loadBay) ∧
    findContext 5 loadBay = some (theContext .load 31000) ∧
    loadBay.now < 31000 ∧
    (busy 5 .loading 7).state.owned = true ∧
    findJob 7 loadBay = some (bound 7 5 .loading) ∧
    (theFlight .load 31000).faults (busy 5 .loading 7) 3 = some .hoistFault ∧
    (theFlight (.goto 180) 31000).faults { busy 5 .toPickup 7 with target := some 180 } 5 = some .halted ∧
    Ready (going 180 (busy 5 .toPickup 7) [bound 7 5 .assigned]) ∧
    (let s := behind (.haltSent 6 1001) false loadBay; Ready s ∧ s.now < 1001 ∧
      (findContext 5 s).map Context.queued = some (some (.haltSent 6 1001))) ∧
    (let s := behind (.haltSent 6 1000) false loadBay; Ready s ∧ 1000 ≤ s.now ∧ (theFlight .load 31000).seq ≠ 6) ∧
    (let s := behind (.haltSent 6 1000) true (going 180 (busy 5 .toPickup 7) [bound 7 5 .assigned]); Ready s ∧
      (findContext 5 s).map (fun x => x.inFlight.map InFlight.haltSent) = some (some true)) := by
  simp only [Ready, Settled]
  repeat' apply And.intro
  all_goals decide +kernel

theorem witness_StatusSilenceLosesVehicle :
    Ready working ∧
    findVehicle 5 working = some (busy 5 .toPickup 7) ∧
    (busy 5 .toPickup 7).lastStatus = some 500 ∧
    working.now < 500 + working.cfg.statusTimeout ∧
    Ready (timed 1500 working) ∧
    500 + working.cfg.statusTimeout ≤ (timed 1500 working).now ∧
    Ready (cars [car 5 .lost 0] bay) ∧
    findJob 7 working = some (bound 7 5 .assigned) := by
  simp only [Ready, Settled]
  repeat' apply And.intro
  all_goals decide +kernel

theorem witness_LostHoldAndPassListExpire :
    (let s := cars [{ car 5 .lost 0 with lostHold := some 1000 }] bay; Ready s ∧
      (findVehicle 5 s).map Vehicle.lostHold = some (some 1000) ∧ 1000 ≤ s.now) ∧
    (let s := cars [{ car 5 .lost 0 with lostHold := some 1001 }] bay; Ready s ∧ s.now < 1001) := by
  simp only [Ready, Settled]
  repeat' apply And.intro
  all_goals decide +kernel

theorem witness_ParkDelaySendsToNearestFreeSlot :
    (let r := { car 5 .idle 2350 with parkDeadline := some 1000 }; let s := cars [r] bay; Ready s ∧
      findVehicle 5 s = some r ∧ 1000 ≤ s.now ∧ r.isIdle = true ∧ s.cfg.park.getD 1 none = some 400 ∧
      parkOccupant 1 s = none ∧ (s.vr.records.map Vehicle.vehicle).Nodup) ∧
    (let r := { car 5 .idle 2350 with parkDeadline := some 1000 };
      let s := cars [{ car 9 .parking 2300 with parkSlot := some 0 }, r] bay; Ready s ∧
      ∀ i < 8, ∀ a ∈ (s.cfg.park.getD i none).toList, parkOccupant i s = none →
        s.dist 2350 400 < s.dist 2350 a ∨ (s.dist 2350 400 = s.dist 2350 a ∧ 1 ≤ i)) ∧
    (let s := cars [{ car 5 .idle 2350 with parkDeadline := some 1000 }] { bay with cfg := Cfg.reset };
      Ready s ∧ ∀ i < 8, s.cfg.park.getD i none = none ∨ (parkOccupant i s).isSome = true) ∧
    (let s := cars [{ car 5 .pledged 2350 with parkDeadline := some 1000 }] bay; Ready s ∧ s.now < 1001) := by
  simp only [Ready, Settled]
  repeat' apply And.intro
  all_goals decide +kernel

theorem witness_PortWaitReturnsJobToWaiting :
    Ready waitBay ∧
    dueWait 7 waitBay = false ∧
    Ready (timed 21000 waitBay) ∧
    dueWait 7 (timed 21000 waitBay) = true ∧
    (findJob 7 waitBay).map Job.vehicle = some (some (5, .current)) ∧
    (findVehicle 5 waitBay).map Vehicle.nextJob = some none := by
  simp only [Ready, Settled]
  repeat' apply And.intro
  all_goals decide +kernel

theorem witness_AgingAndQuietTimersExpire :
    (let s := { jobs [job 7] bay with jt := { jobs := [job 7], agingDeadline := some 1000 } }; Ready s ∧
      s.due s.jt.agingDeadline = true ∧ s.cpc.level ≠ .config) ∧
    bay.due bay.jt.agingDeadline = false ∧
    (let s := { bay with cu := { bay.cu with quietDeadline := some 1000 } }; Ready s ∧
      s.due s.cu.quietDeadline = true) ∧
    bay.due bay.cu.quietDeadline = false := by
  simp only [Ready, Settled]
  repeat' apply And.intro
  all_goals decide +kernel

/-- A job passes both tests where it fails none of the three. -/
theorem eligible_of {j : Job} {promised : List Nat} {s : State} (a : ¬ FailsTest j promised s .sourceNotReady)
    (b : ¬ FailsTest j promised s .destFull) (c : ¬ FailsTest j promised s .peerDown) : Eligible j promised s := by
  intro reason h
  simp only [List.mem_cons, List.not_mem_nil, or_false] at h
  rcases h with rfl | rfl | rfl <;> assumption

/-- A bay with one job, WAITING, in which a decision is due. -/
def askedBay (j : Job) (l : List Vehicle) : State := cars l (jobs [j] { bay with decisionPending := true })

theorem witness_DecisionBindsNearestVehicleOrCalls :
    Ready bay ∧ bay.decisionPending = false ∧
    (let s := { bay with decisionPending := true }; Ready s ∧ s.jt.jobs.all (fun k => !servable k s) = true) ∧
    (let s := askedBay (job 7) [car 7 .idle 2350]; Ready s ∧ s.jt.jobs.filter (fun k => servable k s) = [job 7] ∧
      findJob 7 s = some (job 7) ∧ NearestInReach (job 7) [] (car 7 .idle 2350) s ∧
      (s.vr.records.map Vehicle.vehicle).Nodup ∧ (s.jt.jobs.map Job.tag).Nodup ∧ (job 7).reservation = none ∧
      (s.cu.ownCalls.find? fun x => x.tag == 7) = none) ∧
    (let r := { car 15 .parking 2350 with parkSlot := some 0 };
      let j := { job 7 with dest := .remote 6 11 }; let s := flight 15 (.goto 2300) 9000 (askedBay j [r]); Ready s ∧
      NearestInReach j [] r s ∧ findContext 15 s = some { theContext (.goto 2300) 9000 with vehicle := 15 }) ∧
    (let r := { busy 12 .unloading 77 with laden := some 55 };
      let s := cars [r] (jobs [job 7, { bound 77 12 .carrying with dest := .here 3 }]
        { bay with decisionPending := true });
      Ready s ∧ s.jt.jobs.filter (fun k => servable k s) = [job 7] ∧ r.isIdle = false ∧
      NearestInReach (job 7) [] r s) ∧
    (let s := calls [ownCall 7] (askedBay (calling 7) [car 7 .idle 2350]); Ready s ∧
      s.jt.jobs.filter (fun k => servable k s) = [calling 7] ∧
      (s.cu.ownCalls.find? fun x => x.tag == 7) = some (ownCall 7) ∧ s.pbc.txQueue.length < 8 ∧
      NearestInReach (calling 7) [] (car 7 .idle 2350) s) ∧
    (let s := askedBay (job 7) []; Ready s ∧ NoneInReach (job 7) [] s ∧ MayBeHandedOn (job 7) s ∧
      placeFree s = true ∧ gateOpen 2 s = true ∧ someLender s = true ∧ s.pbc.txQueue.length < 8 ∧
      (s.cu.ownCalls.all fun c => c.tag != 7) = true) ∧
    (let s := modifyPeer 6 (fun p => { p with spare := 0 }) (askedBay (job 7) []); Ready s ∧
      MayBeHandedOn (job 7) s ∧ placeFree s = true ∧ gateOpen 2 s = true ∧ someLender s = false) ∧
    (let j := { job 7 with callBarred := true, holdReason := some .noLender }; let s := askedBay j []; Ready s ∧
      ¬ MayBeHandedOn j s ∧ (s.jt.jobs.map Job.tag).Nodup) ∧
    (let s := full (callFrame 2) (askedBay (job 7) []); Ready s ∧
      s.pbc.txQueue.length = 8 ∧ s.pbc.txQueue.getLast? = some (callFrame 2) ∧ 0 < s.cfg.callRetries ∧
      someLender s = true) ∧
    (let s := full beaconFrame (askedBay (job 7) []); Ready s ∧
      s.pbc.txQueue.getLast? = some beaconFrame ∧ (callFrame 2).order < beaconFrame.order ∧
      beaconFrame.payload.kind ≠ 10) := by
  simp only [Ready, Settled, NearestInReach, NoneInReach, MayBeHandedOn, CanCall]
  repeat' apply And.intro
  all_goals decide +kernel

/-- A test of the decision's job fails, each in turn, and none does. -/
theorem witness_DecisionTests :
    FailsTest { job 7 with source := .port 5 } [] bay .sourceNotReady ∧
    FailsTest { job 7 with dest := .here 3 } [] (modifyPort 3 (fun p => { p with occupied := 2 }) bay) .destFull ∧
    FailsTest { job 7 with dest := .remote 6 11 } [] lone .peerDown ∧
    Eligible (job 7) [] bay ∧ Eligible { job 7 with mode := .run, source := .port 5 } [] bay ∧
    Eligible { job 7 with dest := .remote 6 11 } [] bay ∧ Eligible (calling 7) [] bay := by
  refine ⟨?_, ?_, ?_, eligible_of ?_ ?_ ?_, eligible_of ?_ ?_ ?_, eligible_of ?_ ?_ ?_, eligible_of ?_ ?_ ?_⟩ <;>
    (simp only [FailsTest, SourceFits, job, calling]; decide +kernel)

theorem witness_OfferWindowEndTakesRetriesOrExhausts :
    (let s := calls [ownCall 7] (jobs [calling 7] bay); Ready s ∧ callInSlot 0 s = some (ownCall 7) ∧
      (ownCall 7).windowDeadline = some 1000 ∧ 1000 ≤ s.now ∧ (ownCall 7).best = none ∧
      (ownCall 7).retries < s.cfg.callRetries) ∧
    (let c := { ownCall 7 with best := some { station := 6, vehicle := 62, total := 2880 } };
      let s := calls [c] (jobs [calling 7] bay); Ready s ∧ callInSlot 0 s = some c ∧
      TakeGranted c { station := 6, vehicle := 62, total := 2880 } (calling 7) s) ∧
    (let c := { ownCall 7 with retries := 3 }; let s := calls [c] (jobs [calling 7] bay); Ready s ∧
      callInSlot 0 s = some c ∧ s.cfg.callRetries ≤ c.retries ∧ findJob 7 s = some (calling 7) ∧
      s.cpc.level = .run ∧ s.pbc.txQueue.length < 8) ∧
    (let s := timed 999 (calls [ownCall 7] (jobs [calling 7] bay)); Ready s ∧ s.now < 1000) ∧
    (let c := { ownCall 7 with best := some { station := 6, vehicle := 62, total := 2880 } };
      let s := cars ((List.range 24).map fun k => car (100 + k) .faulted 0) (calls [c] (jobs [calling 7] bay));
      Ready s ∧ callInSlot 0 s = some c ∧
      TakeRefused c { station := 6, vehicle := 62, total := 2880 } (calling 7) s ∧ s.cpc.level = .run ∧
      c.retries < s.cfg.callRetries ∧ s.pbc.txQueue.length < 7) ∧
    (let c := { ownCall 7 with retries := 3, best := some { station := 6, vehicle := 62, total := 2880 } };
      let s := modifyPort 9 (fun p => { p with occupied := 4 }) (calls [c] (jobs [calling 7] bay));
      Ready s ∧ callInSlot 0 s = some c ∧
      TakeRefused c { station := 6, vehicle := 62, total := 2880 } (calling 7) s ∧ s.cfg.callRetries ≤ c.retries) ∧
    (let c := { ownCall 7 with state := .retryWait, windowDeadline := none, retryDeadline := some 1000 };
      let s := calls [c] (jobs [calling 7] bay); Ready s ∧ callInSlot 0 s = some c ∧ 1000 ≤ s.now ∧
      s.cpc.level = .run ∧ s.pbc.txQueue.length < 8) ∧
    (let c := { ownCall 7 with retryDeadline := some 1001 }; let s := calls [c] (jobs [calling 7] bay);
      Ready s ∧ c.state = .openCall) := by
  simp only [Ready, Settled, TakeGranted, TakeRefused, calling, job]
  repeat' apply And.intro
  all_goals decide +kernel

theorem witness_LendingRoundServesFirstCaller :
    bay.due bay.cu.reclaimDeadline = false ∧
    (let s := lending 2; Ready s ∧ s.due s.cu.reclaimDeadline = true ∧ spare s = 0) ∧
    (let s := lending 4; Ready s ∧ s.due s.cu.reclaimDeadline = true ∧ spare s = 2 ∧ s.cpc.level = .run ∧
      (s.cu.incoming.map Incoming.id).Nodup ∧ (s.vr.records.map Vehicle.vehicle).Nodup ∧
      ((incomingOrder s).filter fun x => x.pledge.isNone) = [entry 40 5, entry 41 6] ∧
      [car 3 .idle 2100, car 2 .idle 1400, car 1 .idle 700, car 0 .idle 0].Perm
        (s.vr.records.filter Vehicle.isIdle) ∧
      [car 3 .idle 2100, car 2 .idle 1400, car 1 .idle 700, car 0 .idle 0].Pairwise (fun a b =>
        s.dist a.pos s.cfg.exitPoint < s.dist b.pos s.cfg.exitPoint ∨
        (s.dist a.pos s.cfg.exitPoint = s.dist b.pos s.cfg.exitPoint ∧ a.vehicle < b.vehicle)) ∧
      s.pbc.txQueue.length + 2 ≤ 8) := by
  simp only [Ready, Settled]
  repeat' apply And.intro
  all_goals decide +kernel

theorem witness_PledgeHoldAndCallEntryExpire :
    (let s := pledgeBay; Ready s ∧ findVehicle 5 s = some (pledged 5) ∧ 1000 ≤ s.now ∧
      (findIncoming theirs s).map Incoming.pledge = some (some 5)) ∧
    Ready (timed 999 pledgeBay) ∧ (timed 999 pledgeBay).now < 1000 ∧
    (let s := heard [entry 41 5] bay; Ready s ∧ findIncoming (entry 41 5).id s = some (entry 41 5) ∧
      s.now < 1000 + s.cfg.offerWindow) ∧
    (let s := timed 1150 (heard [entry 41 5] bay); Ready s ∧ 1000 + s.cfg.offerWindow ≤ s.now) := by
  simp only [Ready, Settled]
  repeat' apply And.intro
  all_goals decide +kernel

theorem witness_AskRetrySendsAgainOrHolds :
    (let s := awayBay .asking false; Ready s ∧ findAsk 7 s = some (ask 7 5 .asking) ∧ 1000 ≤ s.now ∧
      mayAsk 6 s = true ∧ (findJob 7 s).isSome = true ∧ s.pbc.txQueue.length < 8) ∧
    (let s := { awayBay .deferred false with cpc := lone.cpc }; Ready s ∧ mayAsk 6 s = false) ∧
    Ready (timed 999 (awayBay .asking false)) := by
  simp only [Ready, Settled]
  repeat' apply And.intro
  all_goals decide +kernel

theorem witness_AdmitWaitRedirectsJob :
    (let s := awayBay .granted false; Ready s ∧ findAsk 7 s = some (ask 7 5 .granted)) ∧
    (let s := awayBay .asking false; Ready s ∧ findAsk 7 s = some (ask 7 5 .asking) ∧ 1000 ≤ s.now ∧
      (findJob 7 s).map (fun j => (j.vehicle, j.reservation, j.dest)) = some (some (5, .current), none, .remote 6 11) ∧
      (findVehicle 5 s).isSome = true ∧ s.cfg.fallback = some 10) ∧
    Ready (timed 999 (awayBay .asking false)) := by
  simp only [Ready, Settled]
  repeat' apply And.intro
  all_goals decide +kernel

theorem witness_InboundDeadlinesGiveUpByPhase :
    (let s := cars [expected 5 7 (.lent ours) .inTransit] (jobs [bound 7 5 .assigned] bay); Ready s ∧
      findVehicle 5 s = some (expected 5 7 (.lent ours) .inTransit) ∧ 1000 ≤ s.now ∧ Ready (timed 999 s)) ∧
    (let s := cars [expected 5 7 (.lent ours) .awaitHandoff] (jobs [bound 7 5 .assigned] bay); Ready s ∧
      findJob 7 s = some (bound 7 5 .assigned)) ∧
    (let s := cars [expected 5 7 (.laden 9) .overdue] (jobs [bound 7 5 .inbound] bay); Ready s ∧
      findJob 7 s = some (bound 7 5 .inbound)) ∧
    Ready (cars [{ expected 5 7 (.lent ours) .overdue with currentJob := none }] bay) := by
  simp only [Ready, Settled]
  repeat' apply And.intro
  all_goals decide +kernel

theorem witness_SilenceSwitchesLine :
    Ready bay ∧ bay.now < bay.pbc.silenceDeadline ∧
    (let s := errs 0 31 { bay with now := 1040, pbc := { bay.pbc with standbyHeard := true } }; Ready s ∧
      s.pbc.silenceDeadline ≤ s.now ∧ s.pbc.standbyHeard = true ∧ s.err s.pbc.observed.other ≤ s.cfg.errThreshold) ∧
    (let s := errs 0 32 { bay with now := 1040, pbc := { bay.pbc with standbyHeard := true } }; Ready s ∧
      s.cfg.errThreshold < s.err s.pbc.observed.other) ∧
    Ready (timed 1040 bay) ∧ bay.pbc.standbyHeard = false := by
  simp only [Ready, Settled]
  repeat' apply And.intro
  all_goals decide +kernel

theorem witness_AttemptAndLostContentionMoveTheFrame :
    Ready bay ∧ bay.pbc.onLine = none ∧ bay.pbc.txQueue = [] ∧
    Ready (frames [closeFrame] bay) ∧
    Ready (line (sending closeFrame) bay) ∧
    Ready (line { sending closeFrame with noReturn := true } bay) ∧
    Ready (line { sending beaconFrame with newerBeacon := true } bay) ∧ beaconFrame.isBeacon = true ∧
    (sending beaconFrame).newerBeacon = false ∧ Ready (line (sending beaconFrame) bay) ∧
    (let s := line (sending closeFrame) (frames (List.replicate 7 closeFrame ++ [beaconFrame]) bay); Ready s ∧
      s.pbc.txQueue.length = 8 ∧ s.pbc.txQueue.getLast? = some beaconFrame ∧ beaconFrame.payload.kind ≠ 10 ∧
      closeFrame.order < beaconFrame.order) ∧
    (let s := line (sending closeFrame) (frames (List.replicate 8 closeFrame) bay); Ready s ∧
      s.pbc.txQueue.getLast? = some closeFrame ∧ closeFrame.payload.kind ≠ 10 ∧ closeFrame.isBeacon = false) := by
  simp only [Ready, Settled]
  repeat' apply And.intro
  all_goals decide +kernel

theorem witness_TransmissionEndJudgesEcho :
    Ready bay ∧ bay.pbc.onLine = none ∧
    Ready (line { sending closeFrame with line := .b } bay) ∧
    (let f : TxFrame := { target := 34, payload := .call ours 2 980 };
      let s := line (sending f) (calls [{ ownCall 7 with windowDeadline := none }] (jobs [calling 7] bay));
      Ready s ∧ unsentCall ours s = some { ownCall 7 with windowDeadline := none }) ∧
    (let s := line (sending closeFrame) { bay with pbc := { bay.pbc with txFailures := 6 } }; Ready s ∧
      min (s.pbc.txFailures + 1) 31 < s.cfg.txFailLimit ∧ closeFrame.payload.kind ≠ 10) ∧
    (let s := line (sending closeFrame) { bay with pbc := { bay.pbc with txFailures := 7 } }; Ready s ∧
      s.cpc.level = .run ∧ s.cfg.txFailLimit ≤ min (s.pbc.txFailures + 1) 31) ∧
    hear [1, 2, 3] = .badForm := by
  simp only [Ready, Settled]
  repeat' apply And.intro
  all_goals decide +kernel

theorem witness_BadAndStandbyFramesMoveCounters :
    Ready bay ∧
    hear (withCrc [0, 6, 2, 2, 63, 2, 6, 40]) = .otherVersion ∧
    bay.cfg.versionPolicy = .ignore ∧
    hear [] = .badForm ∧
    Ready (errs 31 31 bay) ∧
    Ready (errs 31 32 bay) ∧
    Ready (errs 32 255 bay) := by
  simp only [Ready, Settled]
  repeat' apply And.intro
  all_goals decide +kernel

theorem witness_DuplicateStationIsolates :
    Ready (line (sending closeFrame) bay) ∧
    (3 : BitVec 5).toNat = bay.cfg.station ∧
    (let s := line { sending closeFrame with line := .b } bay; Ready s ∧ bay.pbc.observed = .a) ∧
    (let s := line { sending closeFrame with line := .b } (errs 33 32 bay); Ready s) ∧
    (let s := { bay with pbc := { bay.pbc with ownCopy := some (.a, bay.now) } }; Ready s ∧ s.pbc.onLine = none) ∧
    (let s := { bay with pbc := { bay.pbc with duplicate := true } }; Ready s ∧ s.pbc.onLine = none ∧
      s.pbc.ownCopy ≠ some (s.pbc.observed, s.now)) ∧
    Ready bay ∧ bay.pbc.duplicate = false ∧ bay.cpc.level = .run ∧ bay.err .a ≤ bay.cfg.errThreshold ∧
    Ready (errs 31 0 bay) ∧
    Ready idleBay ∧ idleBay.pbc.onLine = none := by
  simp only [Ready, Settled]
  repeat' apply And.intro
  all_goals decide +kernel

theorem witness_PeersFadeRefreshAndStoreBeacons :
    Ready bay ∧
    (6 : BitVec 5).toNat ≠ bay.cfg.station ∧
    accepted 3 bay = true ∧
    accepted 4 bay = false ∧
    accepted 63 bay = true ∧
    Ready idleBay ∧
    bay.cpc.level ≠ .config ∧
    bay.due bay.pbc.beaconDeadline = false ∧
    (let s := { bay with pbc := { bay.pbc with beaconDeadline := some 1000 } }; Ready s ∧
      s.due s.pbc.beaconDeadline = true ∧ (s.hu.askList.map AskEntry.tag).Nodup) ∧
    (let s := frames (List.replicate 8 closeFrame) { bay with pbc := { bay.pbc with beaconDeadline := some 1000 } };
      Ready s ∧ s.pbc.txQueue.any TxFrame.isBeacon = false ∧ 8 ≤ s.pbc.txQueue.length) ∧
    (let s := awayBay .held false; Ready s ∧ (s.hu.askList.map AskEntry.tag).Nodup ∧
      findAsk 7 s = some (ask 7 5 .held) ∧ findJob 7 s = some (away .holding) ∧ s.hu.askList.length ≤ 24 ∧
      s.pbc.txQueue.length + (s.hu.askList.filter fun x => x.station = 6).length ≤ 8 ∧
      (getPeer 6 s).state = .live) ∧
    (let s := modifyPeer 6 (fun p => { p with state := .stale, freshness := 0 }) (awayBay .held false); Ready s ∧
      s.cpc.level = .run ∧ (getPeer 6 s).state ≠ .live ∧ 0 < (getPeer 6 s).freeRecords ∧
      0 < (getPeer 6 s).freeJobSlots) := by
  simp only [Ready, Settled]
  repeat' apply And.intro
  all_goals decide +kernel

theorem witness_CallJoinsQueueRepeatsOrDisplaces :
    HeardAndAccepted from6 lone ∧ Ready lone ∧
    HeardAndAccepted from6 bay ∧ Ready bay ∧ legTo 6 bay ≠ 0 ∧ findIncoming theirs bay = none ∧
      bay.cu.incoming.length < 8 ∧
    (let s := heard [entry 40 5] bay; HeardAndAccepted from6 s ∧ Ready s ∧
      findIncoming theirs s = some (entry 40 5)) ∧
    (let s := pledgeBay; HeardAndAccepted from6 s ∧ Ready s ∧
      (findIncoming theirs s).map Incoming.pledge = some (some 5) ∧
      (findVehicle 5 s).map (fun r => r.pledge.isSome) = some true ∧ s.pbc.txQueue.length < 8) ∧
    (let s := heard ((List.range 8).map fun k => entry (BitVec.ofNat 8 k) (100 + k)) bay; HeardAndAccepted from6 s ∧
      Ready s ∧ findIncoming theirs s = none ∧ s.cu.incoming.length = 8 ∧
      (incomingOrder s).getLast? = some (entry 7 107) ∧ findIncoming (entry 7 107).id s = some (entry 7 107)) ∧
    (let w := { entry 7 107 with pledge := some 5 };
      let s := cars [pledged 5] (heard ((List.range 7).map (fun k => entry (BitVec.ofNat 8 k) (100 + k)) ++ [w]) bay);
      Ready s ∧ (incomingOrder s).getLast? = some w ∧ (pledged 5).state = .pledged) := by
  simp only [Ready, Settled, HeardAndAccepted]
  repeat' apply And.intro
  all_goals decide +kernel

theorem witness_OfferIsKeptTakenOrClosed :
    HeardAndAccepted from6 idleBay ∧ Ready idleBay ∧
    HeardAndAccepted from6 bay ∧ Ready bay ∧ findOwnCall ours bay = none ∧ bay.cu.takenCalls = [] ∧
      vehicleInRange 1023 = true ∧ vehicleInRange 1024 = false ∧ ours.station.toNat = bay.cfg.station ∧
      bay.pbc.txQueue.length < 8 ∧
    (let s := calls [ownCall 7] (jobs [calling 7] bay); HeardAndAccepted from6 s ∧ Ready s ∧
      findOwnCall ours s = some (ownCall 7) ∧ findVehicle 62 s = none ∧ findJob 7 s = some (calling 7) ∧
      s.cfg.quickAccept < min (65535 + s.dist 0 (pickupPosition (calling 7) s)) 65535 ∧
      min (1320 + s.dist 0 (pickupPosition (calling 7) s)) 65535 ≤ s.cfg.quickAccept ∧
      TakeGranted (ownCall 7) { station := 6, vehicle := 62, total := 1500 } (calling 7) s) ∧
    (let s := modifyPort 9 (fun p => { p with occupied := 4 }) (calls [ownCall 7] (jobs [calling 7] bay));
      HeardAndAccepted from6 s ∧ Ready s ∧
      TakeRefused (ownCall 7) { station := 6, vehicle := 62, total := 1500 } (calling 7) s) ∧
    (let s := taken [takenCall 7 62] bay; HeardAndAccepted from6 s ∧ Ready s ∧
      s.cu.takenCalls.any (fun x => x.id == ours) = true) ∧
    (let s := cars [car 62 .idle 0] (calls [ownCall 7] (jobs [calling 7] bay)); HeardAndAccepted from6 s ∧
      Ready s ∧ (findVehicle 62 s).isSome = true) := by
  simp only [Ready, Settled, HeardAndAccepted, TakeGranted, TakeRefused, calling, job]
  repeat' apply And.intro
  all_goals decide +kernel

theorem witness_TakeAndCloseSettlePledges :
    HeardAndAccepted from6 lone ∧ Ready lone ∧
    HeardAndAccepted from6 bay ∧ Ready bay ∧ findIncoming theirs bay = none ∧ lentFor 5 theirs bay = false ∧
      bay.pbc.txQueue.length < 8 ∧
    (let s := pledgeBay; HeardAndAccepted from6 s ∧ Ready s ∧
      (findIncoming theirs s).map Incoming.pledge = some (some 5) ∧ findVehicle 5 s = some (pledged 5) ∧
      findContext 5 s = none) ∧
    (let s := flight 5 (.goto 400) 9000 pledgeBay; HeardAndAccepted from6 s ∧ Ready s ∧
      commandInFlight 5 s = true) ∧
    (let s := heard [entry 40 5] bay; HeardAndAccepted from6 s ∧ Ready s ∧
      findIncoming theirs s = some (entry 40 5)) ∧
    (let s := cars [{ car 5 .departing 100 with lend := some { caller := 6, call := theirs } }] bay;
      HeardAndAccepted from6 s ∧
      Ready s ∧ lentFor 5 theirs s = true) := by
  simp only [Ready, Settled, HeardAndAccepted]
  repeat' apply And.intro
  all_goals decide +kernel

theorem witness_AskIsGrantedDeferredOrDenied :
    HeardAndAccepted from6 lone ∧ Ready lone ∧
    HeardAndAccepted from6 idleBay ∧ Ready idleBay ∧ idleBay.pbc.txQueue.length < 8 ∧
    (let s := cars [expected 5 7 (.laden 9) .awaitHandoff] (jobs [bound 7 5 .inbound] bay); HeardAndAccepted from6 s ∧
      Ready s ∧ findVehicle 5 s = some (expected 5 7 (.laden 9) .awaitHandoff)) ∧
    HeardAndAccepted from6 bay ∧ Ready bay ∧ expectedFor 6 1023 (.laden 9) bay = none ∧
      (getPort 4 bay).takes = false ∧ (getPort 9 bay).hasRoom 0 = true ∧ findVehicle 1023 bay = none ∧
      bay.vr.records.length < 24 ∧ bay.jt.jobs.length < 64 ∧
    (let s := modifyPort 9 (fun p => { p with occupied := 4 }) bay; HeardAndAccepted from6 s ∧ Ready s ∧
      (getPort 9 s).hasRoom 0 = false) ∧
    (let s := jobs ((List.range 64).map fun k => { job (100 + k) with state := .paused }) bay;
      HeardAndAccepted from6 s ∧
      Ready s ∧ 64 ≤ s.jt.jobs.length) ∧
    (let s := cars [car 5 .idle 0] bay; HeardAndAccepted from6 s ∧ Ready s ∧ (findVehicle 5 s).isSome = true) ∧
    (let s := full closeFrame bay; HeardAndAccepted from6 s ∧ Ready s ∧ s.pbc.txQueue.length = 8 ∧
      s.pbc.txQueue.getLast? = some closeFrame ∧ closeFrame.order = 0) ∧
    (let s := full beaconFrame bay; HeardAndAccepted from6 s ∧ Ready s ∧ 0 < beaconFrame.order ∧
      beaconFrame.payload.kind ≠ 10) ∧
    (let c := { ownCall 7 with windowDeadline := none };
      let w : TxFrame := { target := 34, payload := .call ours 2 980 };
      let s := full w (calls [c] (jobs [calling 7] bay)); HeardAndAccepted from6 s ∧ Ready s ∧
      s.pbc.txQueue.getLast? = some w ∧ unsentCall ours s = some c ∧ c.retries < s.cfg.callRetries) ∧
    (let c := { ownCall 7 with windowDeadline := none, retries := 3 };
      let s := full { target := 34, payload := .call ours 2 980 } (calls [c] (jobs [calling 7] bay));
      HeardAndAccepted from6 s ∧ Ready s ∧ unsentCall ours s = some c ∧ s.cfg.callRetries ≤ c.retries ∧
      findJob 7 s = some (calling 7)) := by
  simp only [Ready, Settled, HeardAndAccepted]
  repeat' apply And.intro
  all_goals decide +kernel

theorem witness_AnswersSettleAskEntries :
    HeardAndAccepted from6 bay ∧ Ready bay ∧ matchAsk 6 9 bay = none ∧
    (let s := awayBay .asking false; HeardAndAccepted from6 s ∧ Ready s ∧
      matchAsk 6 9 s = some (ask 7 5 .asking) ∧
      s.hu.exitQueue.head?.map (fun x => (x.vehicle, x.leaveSent)) = some (5, false) ∧
      (findVehicle 5 s).map (fun r => (r.lend, r.currentJob)) = some (none, some 7) ∧
      (findJob 7 s).map (fun j => (j.dest, j.vehicle, j.reservation)) = some (.remote 6 11, some (5, .current), none) ∧
      findContext 5 s = none ∧ s.cfg.fallback = some 10) ∧
    (let s := awayBay .held false; HeardAndAccepted from6 s ∧ Ready s ∧ matchAsk 6 9 s = some (ask 7 5 .held)) ∧
    (let s := awayBay .granted true; HeardAndAccepted from6 s ∧ Ready s ∧
      matchAsk 6 9 s = some (ask 7 5 .granted)) ∧
    (let s := exits [] (awayBay .deferred false); HeardAndAccepted from6 s ∧ Ready s ∧
      ∀ y ∈ s.hu.exitQueue, y.vehicle ≠ 5) := by
  simp only [Ready, Settled, HeardAndAccepted]
  repeat' apply And.intro
  all_goals decide +kernel

theorem witness_RefuseAndHandoffSettleExpectedRecords :
    HeardAndAccepted from6 bay ∧ Ready bay ∧ expectedFor 6 5 (.lent ours) bay = none ∧
    (let s := cars [expected 5 7 (.lent ours) .awaitHandoff] (taken [takenCall 7 5] (jobs [bound 7 5 .assigned] bay));
      HeardAndAccepted from6 s ∧
      Ready s ∧ findVehicle 5 s = some (expected 5 7 (.lent ours) .awaitHandoff) ∧
      s.cu.takenCalls.find? (TakenCall.isFor ours 5) = some (takenCall 7 5) ∧
      findJob 7 s = some (bound 7 5 .assigned) ∧ (takenCall 7 5).retries < s.cfg.callRetries ∧
      s.pbc.txQueue.length < 8 ∧ HeardAndAccepted from6 { s with cpc := lone.cpc } ∧
      Ready { s with cpc := lone.cpc }) ∧
    (let s := cars [expected 5 7 (.lent ours) .awaitHandoff]
        (taken [{ takenCall 7 5 with retries := 3 }] (jobs [bound 7 5 .assigned] bay));
      Ready s ∧ s.cfg.callRetries ≤ 3) ∧
    (let s := cars [{ expected 5 7 (.lent ours) .awaitHandoff with currentJob := none }] bay; HeardAndAccepted from6 s ∧
      Ready s ∧ ∀ x ∈ s.cu.takenCalls, x.isFor ours 5 = false) ∧
    (let s := cars [expected 5 7 (.lent ours) .inTransit] (jobs [bound 7 5 .assigned] bay); HeardAndAccepted from6 s ∧
      Ready s ∧ findJob 7 s = some (bound 7 5 .assigned)) ∧
    expectedFor 6 5 (.laden 9) bay = none ∧
    (let s := cars [expected 5 7 (.lent ours) .awaitHandoff] (taken [takenCall 7 5] (jobs [bound 7 5 .assigned] bay));
      HeardAndAccepted from6 s ∧
      Ready s ∧ findVehicle 5 s = some (expected 5 7 (.lent ours) .awaitHandoff)) ∧
    (let s := cars [expected 5 7 (.laden 9) .awaitHandoff] (jobs [bound 7 5 .inbound, job 8] bay);
      HeardAndAccepted from6 s ∧
      Ready s ∧ findJob 7 s = some (bound 7 5 .inbound) ∧ findJob 8 s = some (job 8) ∧ findJob 65535 s = none) ∧
    (let s := cars [expected 5 7 (.laden 9) .overdue] (jobs [bound 7 5 .inbound] bay); HeardAndAccepted from6 s ∧
      Ready s) := by
  simp only [Ready, Settled, HeardAndAccepted]
  repeat' apply And.intro
  all_goals decide +kernel

/-- A bay with jobs and vehicles at work, a lent vehicle on its way in, and a STOP waiting. -/
def stopping : State :=
  { taken [takenCall 9 8]
      (asks [ask 7 5 .asking]
        (exits [{ vehicle := 5, lent := false, mayLeave := false, leaveSent := false }]
          (cars [{ busy 5 .holding 7 with laden := some 55 }, expected 8 9 (.lent ours) .awaitHandoff, pledged 6]
            (heard [{ entry 40 5 with pledge := some 6 }]
              (jobs [{ away .holding with askSeq := some 9 }, bound 9 8 .assigned, job 10] bay))))) with
    pending := [.stop] }

theorem stopping_waits : WaitsAgree stopping := by
  have h : ∀ p < 48, (getPort p stopping).waitList = [] := by decide +kernel
  intro p hp w hw
  rw [h p hp] at hw
  cases hw

/-- For StepLeavesNothingOwed and the four statements StepKeeps…. -/
theorem witness_StepKeepsItsInvariants :
    Settled stopping ∧ KeysDistinct stopping ∧ BooksBalance stopping ∧ QueueInKeyOrder stopping ∧
      RegistersInRange stopping ∧ PeerTableFits stopping ∧ RecordsLinked stopping := by
  simp only [Settled, KeysDistinct, BooksBalance, QueueInKeyOrder, RegistersInRange, StoreInRange, PeerTableFits,
    RecordsLinked, BindingsAgree, RecordsFit, CallsAgree, PledgesAgree, AsksAgree, ExitQueueAgrees]
  repeat' apply And.intro
  all_goals first
    | exact stopping_waits
    | decide +kernel

theorem witness_StepKeepsItsInvariants_answers : ∃ t, step stopping = .next t := ⟨_, rfl⟩

theorem witness_FramesAndCommandsReadBackAsWritten :
    (Instr.cancel 7).wf = true ∧
    writeCommand (.cancel 7) = some [2, 0, 7] ∧
    readCommand [2, 0, 7] = some (.cancel 7) ∧
    readCommand [16] = some (.unknownCommandCode 16) := by
  decide +kernel

/-! ### One step of a command, on the spec's worked cases -/

/-- The state after a command. -/
def after (c : Instr) (s : State) : State :=
  match exec c s with
  | .next t => t
  | _ => s

/-- The four jobs and the four candidates of the worked pass of chapter 6. -/
def passBay : State :=
  cars [car 3 .idle 200, car 7 .idle 2350, { busy 12 .laden 77 with laden := some 55 },
      { car 15 .parking 1000 with parkSlot := some 2 }]
    (jobs [{ job 21 with age := 10 }, { job 22 with cls := 1, source := .port 7 },
        { job 23 with cls := 3, age := 100, source := .port 2, dest := .remote 6 11 },
        { job 24 with cls := 0, source := .port 5 },
        { bound 77 12 .carrying with dest := .here 3, reservation := some 3 }] { bay with decisionPending := true })

theorem test_dispatch_decision_chapter_6 :
    (after .dispatchDecision passBay).jt.jobs.map (fun j => (j.tag, j.state, j.vehicle)) =
      [(21, .assigned, some (12, .next)), (22, .assigned, some (15, .current)), (23, .calling, none),
        (24, .waiting, none), (77, .carrying, some (12, .current))] ∧
    (getPort 9 (after .dispatchDecision passBay)).reserved = 2 ∧
    (findVehicle 15 (after .dispatchDecision passBay)).map (fun r => (r.state, r.target, r.parkSlot)) =
      some (.toPickup, some 1200, none) ∧
    (findContext 15 (after .dispatchDecision passBay)).map (fun x => (x.inFlight.map InFlight.cmd, x.queued)) =
      some (some .halt, some (.waiting (.goto 1200))) := by decide +kernel

/-- The worked pass, as DecisionPassServesJobsInUrgencyOrder takes it: job 24 is not ready, jobs 22 and 21 take the
vehicles 15 and 12, and job 23 calls. -/
def passPlan : Plan :=
  [({ job 24 with cls := 0, source := .port 5 }, .fails .sourceNotReady),
    ({ job 22 with cls := 1, source := .port 7 }, .takes { car 15 .parking 1000 with parkSlot := some 2 }),
    ({ job 21 with age := 10 }, .takes { busy 12 .laden 77 with laden := some 55 }),
    ({ job 23 with cls := 3, age := 100, source := .port 2, dest := .remote 6 11 },
      .calls
        { ownCall 23 with
          id := { station := 3, seq := 0 }, cls := 3, urgency := 1100, windowDeadline := none })]

theorem witness_DecisionPassServesJobsInUrgencyOrder :
    Ready passBay ∧ passBay.cpc.level ≠ .config ∧ passBay.decisionPending = true ∧ passPlan.OfDecision passBay ∧
    (passBay.jt.jobs.map Job.tag).Nodup ∧ (passBay.vr.records.map Vehicle.vehicle).Nodup ∧
    (passBay.cu.ownCalls.map OwnCall.tag).Nodup ∧ (passBay.cu.ownCalls.map OwnCall.slot).Nodup ∧
    (∀ x ∈ passPlan, x.1.reservation = none) ∧
    passBay.pbc.txQueue.length + (passPlan.frames passBay).length ≤ 8 := by
  have rights : ∀ n < 4, ∀ x ∈ passPlan[n]?, x.2.Right passPlan (passPlan.take n) x.1 passBay := by
    intro n hn x hx
    match n, hn with
    | 0, _ =>
      cases hx
      simp only [Verdict.Right, FailsTest, SourceFits, job]
      decide +kernel
    | 1, _ =>
      cases hx
      refine ⟨eligible_of ?_ ?_ ?_, ?_⟩ <;> simp only [FailsTest, SourceFits, NearestInReach, CanCall, job] <;>
        decide +kernel
    | 2, _ =>
      cases hx
      refine ⟨eligible_of ?_ ?_ ?_, ?_⟩ <;> simp only [FailsTest, SourceFits, NearestInReach, CanCall, job] <;>
        decide +kernel
    | 3, _ =>
      cases hx
      refine ⟨eligible_of ?_ ?_ ?_, ?_, ?_, ?_, ?_, ?_, ?_⟩ <;>
        (try simp only [FailsTest, SourceFits, NoneInReach, CanCall, MayBeHandedOn, job]) <;> decide +kernel
  simp only [Ready, Settled, Plan.OfDecision]
  repeat' apply And.intro
  all_goals first | exact rights | decide +kernel

/-- Slot 0 is held by V9, slot 1 at 400 is nearer than slot 2 at 1000; the limit is 5000 + 450 × 2. -/
theorem test_park_delay_chapter_6 :
    let s := cars [{ car 9 .parking 2300 with parkSlot := some 0 },
      { car 7 .idle 2350 with parkDeadline := some 1000 }] bay
    (findVehicle 7 (after (.parkDelayExpiry 7) s)).map (fun r => (r.state, r.parkSlot, r.target)) =
      some (.parking, some 1, some 400) ∧
    (findContext 7 (after (.parkDelayExpiry 7) s)).bind (fun x => x.inFlight.map InFlight.deadline) =
      some (1000 + 5900) := by decide +kernel

/-- Station 8 of the worked lending exchange: three idle vehicles, ReserveFloor 2, calls 3/17 and 5/40 with U 980. -/
def lender : State :=
  { cars [car 44 .idle 1850, car 51 .idle 500, car 57 .idle 1000] bay with
    cfg := { bay.cfg with station := 8, loopLength := 2000, exitPoint := 1900, leg := bay.cfg.leg.set 3 3200 }
    cu :=
      { bay.cu with
        reclaimDeadline := some 1000
        incoming :=
          [{ caller := 5, id := ⟨5, 40⟩, urgency := 980, heardAt := 3, pledge := none },
            { caller := 3, id := ⟨3, 17⟩, urgency := 980, heardAt := 2, pledge := none }] } }

theorem test_reclaim_window_chapter_7 :
    (after .reclaimWindowEnd lender).cu.incoming.map (fun e => (e.caller, e.pledge)) = [(5, none), (3, some 44)] ∧
    (after .reclaimWindowEnd lender).pbc.txQueue = [{ target := 3, payload := .offer ⟨3, 17⟩ 44 3250 }] ∧
    spare (after .reclaimWindowEnd lender) = 0 := by decide +kernel

/-- Station 3 of the same exchange: an offer of total 3430 from station 8 gives way to 2880 from station 11. -/
theorem test_offer_chapter_7 :
    let s := calls [ownCall 30] (jobs [calling 30] bay)
    let t := after (.offer ⟨8, 3⟩ ours 44 3250) s
    (t.cu.ownCalls.map OwnCall.best) = [some ⟨8, 44, 3430⟩] ∧
    (after (.offer ⟨11, 3⟩ ours 62 2700) t).cu.ownCalls.map OwnCall.best = [some ⟨11, 62, 2880⟩] := by decide +kernel

theorem test_offer_quick_is_taken :
    let t := after (.offer from6 ours 62 1320) (calls [ownCall 7] (jobs [calling 7] bay))
    (findVehicle 62 t).map Vehicle.state = some .expected ∧ t.cu.ownCalls = [] ∧
    t.pbc.txQueue = [{ target := 63, payload := .take ours 6 62 }] := by decide +kernel

/-- A hoist of the chain of chapter 6 ends: port 3 goes to 1 / 0, the vehicle takes up job 21 with limit 5060. -/
theorem test_done_unload_chapter_6 :
    let s := flight 12 .unload 9000
      (cars [{ busy 12 .unloading 77 with position := some 150, laden := some 55, nextJob := some 21 }]
        (jobs [{ bound 77 12 .carrying with dest := .here 3, reservation := some 3 },
          { bound 21 12 .assigned with vehicle := some (12, .next) }]
          (modifyPort 3 (fun p => { p with reserved := 1 }) bay)))
    let t := after (.done 12 5 0 0) s
    ((getPort 3 t).occupied, (getPort 3 t).reserved) = (1, 0) ∧ t.jt.jobs.map Job.tag = [21] ∧
    (findContext 12 t).bind (fun x => x.inFlight.map fun i => (i.cmd, i.deadline)) = some (.goto 180, 6060) ∧
    t.cpc.notices.map Notice.body = [.jobDone 77 none 12 1] := by decide +kernel

theorem test_done_goto_arrives_and_loads :
    let s := flight 5 (.goto 180) 9000 (cars [{ busy 5 .toPickup 7 with target := some 180 }]
      (jobs [bound 7 5 .assigned] bay))
    let t := after (.done 5 5 0 0) s
    (findJob 7 t).map Job.state = some .loading ∧
    (findContext 5 t).bind (fun x => x.inFlight.map InFlight.cmd) = some .load := by decide +kernel

/-- The counter at 31 is not above the default ErrThreshold, 32 is: the line switches (R171). -/
theorem test_bad_frame_switches_above_31 :
    (after (.badFrame .a []) (errs 30 0 bay)).pbc.observed = .a ∧
    (after (.badFrame .a []) (errs 31 0 bay)).pbc.observed = .b ∧
    (after (.badFrame .a []) (errs 31 32 bay)).pbc.degraded = true := by decide +kernel

theorem test_standby_frame_ends_degraded :
    let s := errs 33 32 { bay with pbc := { bay.pbc with degraded := true } }
    (after .standbyFrame s).pbc.observed = .b ∧ (after .standbyFrame s).pbc.degraded = false := by decide +kernel

theorem test_transmission_attempt_takes_head :
    (after .transmissionAttempt (frames [closeFrame, beaconFrame] bay)).pbc.onLine = some (sending closeFrame) := by
  decide +kernel

theorem test_transmission_end_isolates_at_limit :
    let s := line (sending closeFrame) { bay with pbc := { bay.pbc with txFailures := 7 } }
    (after (.transmissionEnd none) s).cpc.level = .isolated ∧
    (after (.transmissionEnd (some (sending closeFrame).bytes)) s).pbc.txFailures = 0 := by decide +kernel

/-- After a switch during an own transmission the frame's copy on the line observed now, taken behind the echo, counts
as a good frame and is no duplicate; the next frame with the own number is one (R166 to R168, R170). -/
theorem test_own_copy_counts_after_switch :
    let s := after (.transmissionEnd (some (sending closeFrame).bytes))
      (line { sending closeFrame with line := .b } (errs 5 5 bay))
    let t := after .duplicateStationFrame s
    (t.pbc.errA, t.pbc.errB, t.pbc.duplicate, t.cpc.level) = (4, 4, false, .run) ∧
    (after .duplicateStationFrame t).cpc.level = .isolated := by decide +kernel

/-- A BEACON requested while one is on the line makes that one older; it is then discarded without notice, though the
newer one has been displaced by a full queue (R164, R165). -/
theorem test_contention_lost_discards_older_beacon :
    let s := after .beaconTimerExpiry (line (sending beaconFrame) { bay with
      pbc := { bay.pbc with beaconDeadline := some 1000 } })
    let t := after .contentionLost { s with pbc := { s.pbc with txQueue := List.replicate 8 closeFrame } }
    s.pbc.txQueue.length = 1 ∧ t.pbc.onLine = none ∧ t.pbc.txQueue = List.replicate 8 closeFrame ∧
    t.cpc.notices = [] := by decide +kernel

/-- A frame that loses contention when the queue has filled to 8 is placed as though newly requested (R165). -/
theorem test_contention_lost_at_full_queue_joins_behind :
    let f : TxFrame := { target := 5, payload := .deny 9 0 }
    let t := after .contentionLost (line (sending f) (full beaconFrame bay))
    t.pbc.txQueue = List.replicate 7 closeFrame ++ [f] ∧ t.cpc.notices.map Notice.body = [.txDrop 11 63] := by
  decide +kernel

/-- The release of the select ends the transaction of a command taken, too (R178, R181). -/
theorem test_select_release_cuts_notice_read_short :
    let s := { bay with cpc := { bay.cpc with notices := [⟨.stopped 3, 1⟩] } }
    let t := after .noticeResponseComplete (after (.selectReleasedEarly []) (after .noticeRead s))
    t.cpc.notices = [⟨.stopped 3, 1⟩] ∧ responseBytes t = none := by decide +kernel

/-- A REFUSE heard after the HANDOFF of the same vehicle unbinds the job the record names (R28, R54). -/
theorem test_refuse_after_handoff_unbinds :
    let s := cars [expected 5 7 (.lent ours) .inTransit]
      (jobs [{ bound 7 5 .assigned with reservation := some 9 }] (modifyPort 9 (fun p => { p with reserved := 1 }) bay))
    let t := after (.refuse from6 ours 5) s
    t.jt.jobs = [job 7] ∧ (getPort 9 t).reserved = 0 ∧ t.vr.records = [] := by decide +kernel

theorem test_beacon_clamps :
    let p := getPeer 6 (after (.beacon from6 255 25 65 64 2) bay)
    (p.spare, p.freeRecords, p.freeJobSlots, p.waitingJobs, p.quiet) = (24, 24, 64, 64, true) := by decide +kernel

theorem test_take_departs : (findVehicle 5 (after (.take from6 theirs 3 5) pledgeBay)).map
    (fun r => (r.state, r.lend, r.target)) = some (.departing, some ⟨6, theirs⟩, some 2250) := by decide +kernel

theorem test_take_of_another_releases : (findVehicle 5 (after (.take from6 theirs 9 5) pledgeBay)).map Vehicle.state =
    some .idle := by decide +kernel

theorem test_ask_granted :
    let t := after (.ask from6 9 5 55 2 0 9) bay
    t.jt.jobs.map (fun j => (j.tag, j.state, j.reservation)) = [(32768, .inbound, some 9)] ∧
    t.pbc.txQueue = [{ target := 6, payload := .grant 9 5 }] := by decide +kernel

theorem test_ask_denied_at_supply_port :
    (after (.ask from6 9 5 55 2 0 4) bay).pbc.txQueue = [{ target := 6, payload := .deny 9 0 }] := by decide +kernel

theorem test_grant_sends_leave :
    (findContext 5 (after (.grant from6 9 5) (awayBay .asking false))).bind (fun x => x.inFlight.map InFlight.cmd) =
      some (.leave 6) := by decide +kernel

theorem test_defer_waits_the_later :
    (findAsk 7 (after (.defer from6 9 0 500) (awayBay .asking false))).map AskEntry.retryDeadline = some (some 2000) := by
  decide +kernel

theorem test_deny_redirects :
    (findJob 7 (after (.deny from6 9 0) (awayBay .asking false))).map (fun j => (j.dest, j.originalDest, j.state)) =
      some (.here 10, some (.remote 6 11), .carrying) := by decide +kernel

theorem test_handoff_settles_tag :
    let s := cars [expected 5 32768 (.laden 9) .awaitHandoff] (jobs [bound 32768 5 .inbound, job 8] bay)
    (after (.handoff from6 5 (.laden 9 30 55 2 4 0 9 1)) s).jt.jobs.map Job.tag = [30, 8] ∧
    (after (.handoff from6 5 (.laden 9 8 55 2 4 0 9 1)) s).jt.jobs.map (fun j => (j.tag, j.senderTag)) =
      [(32768, some 8), (8, none)] := by decide +kernel

theorem test_cfg_write_clamps :
    responseBytes (after (.cfgWrite 4 0 63) State.reset) = some [10, 1, 0, 0, 0, 0, 0, 64] ∧
    (after (.cfgWrite 3 0 48) State.reset).cfg.callGroup = 63 := by decide +kernel

theorem test_port_set_clamps :
    (responseBytes (after (.portSet 9 255 5) bay)).map (fun l => l.take 4) = some [3, 1, 1, 0] ∧
    (getPort 9 (after (.portSet 9 255 5) bay)).occupied = 4 := by decide +kernel

theorem test_status_health_faults : (findVehicle 5 (after (.status 5 { good with health := 1 }) working)).map
    (fun r => (r.state, r.faultReason)) = some (.faulted, some .health) := by decide +kernel

theorem test_stop_tells_stopped_first :
    (after .stop (jobs [job 7, job 8] bay)).cpc.notices.map Notice.body =
      [.stopped 2, .levelChange .run .config .host] := by decide +kernel

theorem test_cancel_too_late : responseBytes (after (.cancel 7) (jobs [bound 7 5 .loading] bay)) = some [2, 6, 1, 0] := by
  decide +kernel

theorem test_exit_hands_over :
    let t := after (.exit 5) (awayBay .granted true)
    t.cpc.notices.map Notice.body = [.jobHanded 7 none 5 6] ∧
    t.pbc.txQueue = [{ target := 6, payload := .handoffLaden 5 9 7 0 2 0 0 11 0 }] := by decide +kernel

end Sys2Proof.Tests
end

/-! The host's side of the Job Table: when SUBMIT asks for a record and which (R22, R23), what SUBMIT and CANCEL answer
test by test (R22, R44), and that an admission leaves nothing owed at the end of its step. -/

namespace Sys2Proof.Machine

/-! ### A command of the host, outside reset -/

theorem exec_submit_of_released (r : SubmitRecord) {s : State} (hs : s.held = false) :
    exec (.submit r) s = .next (submit r s) :=
  whenReleased_of_released (submit r) s hs

theorem exec_cancel_of_released (tag : Half) {s : State} (hs : s.held = false) :
    exec (.cancel tag) s = .next (cancel tag s) :=
  whenReleased_of_released (cancel tag) s hs

/-- The model's reply is the response record of the statements, with no payload. -/
theorem reply_eq_answered (code : Byte) (result : ResultCode) (s : State) :
    reply code result s = State.answered code result [] s := rfl

/-! ### What a SUBMIT asks for (R22, R23) -/

theorem submitRoute_eq_some_iff (r : SubmitRecord) (m : JobMode) (d : Dest) (s : State) :
    submitRoute r m s = some d ↔
      r.sourcePort.toNat < Config.portCount ∧ (getPort r.sourcePort.toNat s).supplies = true ∧
      r.destPort.toNat < Config.portCount ∧
      ((r.destKind = 0 ∧ d = .here r.destPort.toNat ∧ (getPort r.destPort.toNat s).takes = true ∧
          r.destPort ≠ r.sourcePort) ∨
       (r.destKind = 1 ∧ d = .remote r.destStation.toNat r.destPort.toNat ∧ r.destStation.toNat < Config.stationCount ∧
          r.destStation.toNat ≠ s.cfg.station ∧ legTo r.destStation.toNat s ≠ 0 ∧ m = .single ∧ r.count = 1 ∧
          r.rearm = 0)) := by
  by_cases hlocal : r.destKind = 0#8
  · simp [submitRoute, hlocal, BitVec.toNat_inj, and_assoc, and_comm, and_left_comm, eq_comm (a := d)]
  · by_cases hremote : r.destKind = 1#8
    · simp [submitRoute, hremote, and_assoc, and_comm, and_left_comm, eq_comm (a := d)]
    · simp [submitRoute, hlocal, hremote]

/-- SubmitFits is the record's own tests, and a route for the mode it reads. -/
theorem submitFits_iff (r : SubmitRecord) (m : JobMode) (d : Dest) (s : State) :
    SubmitFits r m d s ↔
      JobMode.read r.mode = some m ∧ (r.tag ≠ 0 ∧ r.cls.toNat ≤ 7 ∧ r.count ≠ 0 ∧ r.rearm.toNat ≤ 1) ∧
        submitRoute r m s = some d := by
  simp only [SubmitFits, submitRoute_eq_some_iff, Config.portCount, Config.stationCount, and_assoc]

/-- Tests 2 to 6 of R22 pass exactly where the record of R23 is formed. -/
theorem submitJob_eq_some_iff (r : SubmitRecord) (j : Job) (s : State) :
    submitJob r s = some j ↔ ∃ m d, SubmitFits r m d s ∧ j = admittedJob r m d := by
  cases hm : JobMode.read r.mode with
  | none => simp [submitJob, submitFits_iff, hm]
  | some m =>
    calc submitJob r s = some j
        ↔ (r.tag ≠ 0 ∧ r.cls.toNat ≤ 7 ∧ r.count ≠ 0 ∧ r.rearm.toNat ≤ 1) ∧
            ∃ d, submitRoute r m s = some d ∧ admittedJob r m d = j := by
          simp only [submitJob, hm, Option.ite_none_right_eq_some, Option.map_eq_some_iff]; rfl
      _ ↔ ∃ m d, SubmitFits r m d s ∧ j = admittedJob r m d := by
          simp [submitFits_iff, hm, and_assoc, eq_comm (a := j)]

theorem submitJob_of_fits {r : SubmitRecord} {m : JobMode} {d : Dest} {s : State} (h : SubmitFits r m d s) :
    submitJob r s = some (admittedJob r m d) :=
  (submitJob_eq_some_iff r _ s).mpr ⟨m, d, h, rfl⟩

theorem mem_destinations_of_fits {r : SubmitRecord} {m : JobMode} {d : Dest} {s : State} (h : SubmitFits r m d s) :
    d ∈ [Dest.here r.destPort.toNat, .remote r.destStation.toNat r.destPort.toNat] := by
  obtain ⟨-, -, -, -, -, -, -, -, ⟨-, rfl, -⟩ | ⟨-, rfl, -⟩⟩ := h <;> simp

/-- There are no modes and destinations beside those the refusal names, so a SUBMIT that fits none forms no record. -/
theorem submitJob_eq_none_of_unfit {r : SubmitRecord} {s : State}
    (h : ∀ m ∈ [JobMode.single, .run, .demand],
      ∀ d ∈ [Dest.here r.destPort.toNat, .remote r.destStation.toNat r.destPort.toNat], ¬ SubmitFits r m d s) :
    submitJob r s = none := by
  refine Option.eq_none_iff_forall_not_mem.mpr fun j hj => ?_
  obtain ⟨m, d, hfit, -⟩ := (submitJob_eq_some_iff r j s).mp hj
  exact h m (by cases m <;> simp) d (mem_destinations_of_fits hfit) hfit

/-! ### The answers of SUBMIT, test by test (R22) -/

theorem submit_of_config (r : SubmitRecord) {s : State} (hl : s.cpc.level = .config) :
    submit r s = reply 1 .wrongLevel s := if_pos hl

section
variable {r : SubmitRecord} {m : JobMode} {d : Dest} {s : State} (hl : s.cpc.level ≠ .config)
include hl

theorem submit_of_no_job (hj : submitJob r s = none) : submit r s = reply 1 .badArg s := by simp [submit, hl, hj]

/-- Past test 6 what is left is the tag and the room (tests 7 and 8). -/
theorem submit_of_fits (hf : SubmitFits r m d s) :
    submit r s =
      if (findJob r.tag.toNat s).isSome then reply 1 .duplicateTag s
      else if 64 ≤ s.jt.jobs.length then reply 1 .tableFull s
      else reply 1 .ok (finish (admitJob (admittedJob r m d) s)) := by
  simp only [submit, hl, if_false, submitJob_of_fits hf]; rfl

end

/-! ### The refusals of CANCEL (R44) -/

theorem tooLate_iff (st : JobState) :
    st.tooLate = true ↔ st = .loading ∨ st = .carrying ∨ st = .holding ∨ st = .inbound := by
  cases st <;> simp [JobState.tooLate]

theorem cancel_of_config (tag : Half) {s : State} (hl : s.cpc.level = .config) :
    cancel tag s = reply 2 .wrongLevel s := if_pos hl

theorem cancel_of_unknown {tag : Half} {s : State} (hl : s.cpc.level ≠ .config) (hj : findJob tag.toNat s = none) :
    cancel tag s = reply 2 .unknownTag s := by simp [cancel, hl, hj]

theorem cancel_of_tooLate {tag : Half} {j : Job} {s : State} (hl : s.cpc.level ≠ .config)
    (hj : findJob tag.toNat s = some j) (ht : j.state.tooLate = true) : cancel tag s = reply 2 .tooLate s := by
  simp [cancel, hl, hj, ht]

/-! ### An admission (R23) -/

theorem wake_of_level {s : State} (hl : s.cpc.level ≠ .config) : wake s = { s with decisionPending := true } :=
  if_neg hl

/-- A quiet timer that runs has its full interval ahead: a whole second at the least, so the floor of `deadlineIn`
plays no part (R128). -/
theorem startQuietTimer_eq (s : State) :
    startQuietTimer s =
      { s with
        cu :=
          { s.cu with
            quiet := false
            quietDeadline :=
              if s.cfg.quietInterval = 0 then none else some (s.now + s.cfg.quietInterval * 1000) } } := by
  by_cases hq : s.cfg.quietInterval = 0
  · simp [startQuietTimer, State.onCu, hq]
  · have hmax : max (s.cfg.quietInterval * 1000) 1 = s.cfg.quietInterval * 1000 := by omega
    simp [startQuietTimer, State.onCu, State.deadlineIn, hq, hmax]

theorem admitJob_eq (j : Job) {s : State} (hl : s.cpc.level ≠ .config) :
    admitJob j s =
      { s with
        jt := { s.jt with jobs := s.jt.jobs ++ [j] }
        decisionPending := true
        cu :=
          { s.cu with
            quiet := false
            quietDeadline :=
              if s.cfg.quietInterval = 0 then none else some (s.now + s.cfg.quietInterval * 1000) } } := by
  rw [admitJob, wake_of_level (by simpa using hl), startQuietTimer_eq]; rfl

/-- Clearing QUIET takes ReserveFloor off the spare count again, so an admission never adds spare (R127). -/
theorem spare_admitJob_le (j : Job) (s : State) : spare (admitJob j s) ≤ spare s := by
  have hq : (admitJob j s).cu.quiet = false := by simp [admitJob, startQuietTimer]
  have hi : idleCount (admitJob j s) = idleCount s := by simp [idleCount]
  simp only [spare, hq, hi, admit_frame, Bool.false_eq_true, if_false]
  split <;> omega

/-- With no more spare than before, an admission owes no lending round, and nothing else of a settled state changes. -/
theorem settled_admitJob (j : Job) {s : State} (hs : Settled s) : Settled (admitJob j s) := by
  obtain ⟨hraised, hnotices, hleave, hround⟩ := hs
  have hspare := spare_admitJob_le j s
  have hincoming : (admitJob j s).cu.incoming = s.cu.incoming := by simp [admitJob, startQuietTimer]
  have hreclaim : (admitJob j s).cu.reclaimDeadline = s.cu.reclaimDeadline := by simp [admitJob, startQuietTimer]
  have hvehicle (v : Nat) : findVehicle v (admitJob j s) = findVehicle v s := by simp [findVehicle]
  refine ⟨by simpa using hraised, by simpa using hnotices, by simpa [hvehicle] using hleave, fun hl h0 hin => ?_⟩
  rw [hreclaim]
  exact hround (by simpa using hl) (by omega) (by simpa [hincoming] using hin)

/-! ### The obligations -/

/-- Settles O7, test by test: each refusal is the equation of `submit` or `cancel` for the test that fails. -/
theorem submitAndCancelRefusedWithoutEffect : Obligations.SubmitAndCancelRefusedWithoutEffect := by
  intro r mode dest tag j s hheld
  simp only [exec_submit_of_released r hheld, exec_cancel_of_released tag hheld, Host.Outcome.next.injEq,
    ← reply_eq_answered]
  refine ⟨fun hl => ⟨submit_of_config r hl, cancel_of_config tag hl⟩, fun hl =>
    ⟨fun hunfit => ?badArg, fun hfit hdup => ?duplicateTag, fun hfit hnew hfull => ?tableFull,
      cancel_of_unknown hl, fun hj hstate => ?tooLate⟩⟩
  case badArg => exact submit_of_no_job hl (submitJob_eq_none_of_unfit hunfit)
  case duplicateTag => rw [submit_of_fits hl hfit, if_pos hdup]
  case tableFull => simp [submit_of_fits hl hfit, hnew, hfull]
  case tooLate => exact cancel_of_tooLate hl hj ((tooLate_iff j.state).mpr hstate)

/-- Settles O6: past the tests the job is admitted, and the end of the step finds nothing owed. -/
theorem submitAdmitsJob : Obligations.SubmitAdmitsJob := by
  intro r mode dest s hheld hsettled hl hfit hnew hroom
  have hadmit : submit r s = reply 1 .ok (finish (admitJob (admittedJob r mode dest) s)) := by
    simp [submit_of_fits hl hfit, hnew, Nat.not_le.mpr hroom]
  rw [exec_submit_of_released r hheld, hadmit, finish_of_settled _ (settled_admitJob _ hsettled), admitJob_eq _ hl,
    reply_eq_answered]

end Sys2Proof.Machine

/-! NOTICE_READ and the end of its response: what the response carries, and what its last byte removes (R181). -/

namespace Sys2Proof.Machine

/-! ### The two steps, outside reset -/

theorem exec_noticeRead_of_released {s : State} (hs : s.held = false) : exec .noticeRead s = .next (noticeRead s) :=
  whenReleased_of_released noticeRead s hs

theorem exec_noticeResponseComplete_of_released {s : State} (hs : s.held = false) :
    exec .noticeResponseComplete s = .next (noticeComplete s) :=
  whenReleased_of_released noticeComplete s hs

/-- A step that replaces the Command Port Controller's state, and nothing else, stays within that block. -/
theorem onlyTouches_onCpc (f : Cpc → Cpc) (s : State) : OnlyTouches [.cpc] s (s.onCpc f) := by
  refine ⟨rfl, rfl, rfl, fun b hb => ?_⟩
  cases b with
  | cpc => simp at hb
  | _ => rfl

/-! ### What the response carries -/

/-- What a NOTICE_READ taken now carries: the head where there is one, and the overflow flag. -/
def carriedNow (c : Cpc) : NoticeRead := { carriesNotice := !c.notices.isEmpty, carriesOverflow := c.overflow }

/-- NOTICE_READ keeps everything but the transaction, which remembers what its response carries. -/
theorem noticeRead_eq (s : State) :
    noticeRead s =
      s.onCpc fun c =>
        { c with
          transaction := some
            { response :=
                { code := 8, result := .ok, level := c.level, noticeCount := c.notices.length,
                  payload := noticeReadBytes s },
              noticeRead := some (carriedNow s.cpc) } } := rfl

theorem responseBytes_noticeRead (s : State) :
    responseBytes (noticeRead s) = some
      ([8, 0, BitVec.ofNat 8 s.cpc.level.code, BitVec.ofNat 8 s.cpc.notices.length] ++ noticeReadBytes s) := rfl

/-! ### What the end of the response removes -/

theorem noticeComplete_of_reading {s : State} {r : Response} {n : NoticeRead}
    (h : s.cpc.transaction = some { response := r, noticeRead := some n }) :
    noticeComplete s =
      s.onCpc fun c =>
        { c with
          notices := if n.carriesNotice then c.notices.tail else c.notices
          overflow := if n.carriesOverflow then false else c.overflow
          transaction := some { response := r, noticeRead := none } } := by
  simp [noticeComplete, State.onCpc, h]

/-- The head that goes is the one carried: where the queue was empty at the reading, none of the notices that joined
since is removed. -/
theorem notices_after_carriedNow (c : Cpc) (joined : List Notice) :
    (if (carriedNow c).carriesNotice then (c.notices ++ joined).tail else c.notices ++ joined) =
      c.notices.tail ++ joined := by
  cases h : c.notices with
  | nil => simp [carriedNow, h]
  | cons n ns => simp [carriedNow, h]

theorem overflow_after_carriedNow (c : Cpc) :
    (if (carriedNow c).carriesOverflow then false else c.overflow) = false := by
  cases h : c.overflow <;> simp [carriedNow, h]

/-! ### The obligation -/

/-- Settles O12: the transaction remembers what was carried when NOTICE_READ was taken, and the end of its response
removes that from the queue as it then stands. -/
theorem noticeReadRemovesWhatItCarried : Obligations.NoticeReadRemovesWhatItCarried := by
  intro joined s hheld
  refine ⟨noticeRead s, exec_noticeRead_of_released hheld, rfl, responseBytes_noticeRead s, ?completed⟩
  case completed =>
    refine ⟨_, exec_noticeResponseComplete_of_released (by simpa using hheld), ?_⟩
    rw [noticeComplete_of_reading (n := carriedNow s.cpc) (by rw [noticeRead_eq]; rfl)]
    exact ⟨notices_after_carriedNow s.cpc joined, overflow_after_carriedNow s.cpc,
      onlyTouches_onCpc (fun _ => _) s, rfl, rfl⟩

end Sys2Proof.Machine
